-- ==== Sys2Proof/Word.lean ====
section
/-! DEFINITION. The two word types of the machine: bytes and 16-bit words (spec/00_scope.md R5: XLEN 8, ALEN 16). -/

namespace Sys2Proof

/-- A register, a memory cell, a port datum: 8 bits. -/
abbrev Byte := BitVec 8

/-- `PC`, `SP`, a register pair, a memory address: 16 bits. -/
abbrev Word := BitVec 16

end Sys2Proof
end

