-- ==== Sys2Proof/Machine/Bits.lean ====
section
/-! DEFINITION. Byte order and bit-field helpers (spec/00_scope.md R9, R10; spec/20_memory.md R56). -/

namespace Sys2Proof

/-- `{hi, lo}`: a 16-bit value from its high and low bytes (00_scope.md R9). -/
def wordOf (hi lo : Byte) : Word := hi ++ lo

/-- `v[15:8]`. -/
def hiByte (v : Word) : Byte := v.extractLsb' 8 8

/-- `v[7:0]`. -/
def loByte (v : Word) : Byte := v.extractLsb' 0 8

end Sys2Proof
end

