-- ==== Sys2Proof/Config.lean ====
section
/-! DEFINITION. What an implementation of the core fixes (spec/00_scope.md R5). The one parameter the spec leaves open is a
constant without a body: no proof can see its value. -/

namespace Sys2Proof

/-- The cycle count a halted step returns: OPEN in the spec (46_machine_control.md R243, decision D10). Nothing depends on it
(log entry 5). -/
opaque Config.haltedStepCycles : Nat

/-- What a byte of memory that nothing was loaded into and nothing has written reads as: 0x00 (70_reset_and_hazards.md R283,
decision D25). Log entry 1. -/
def Config.unlistedByte : BitVec 8 := 0x00

/-- Number of bytes of memory, `MEMSIZE` (00_scope.md R5). -/
def Config.memSize : Nat := 65536

end Sys2Proof
end

