-- ==== Sys2Proof/Machine/State.lean ====
section
/-! DEFINITION. The machine's state as plain data (spec/10_state.md R20 to R35), the reasons a step can stop, and reset. -/

namespace Sys2Proof.Machine

/-- The seven general registers (10_state.md R20). -/
structure Regs where
  a : Byte
  b : Byte
  c : Byte
  d : Byte
  e : Byte
  h : Byte
  l : Byte
  deriving DecidableEq, Repr

/-- The five flags Sign, Zero, AuxCarry, Parity, Carry (10_state.md R27). The PSW byte is a view of them (R28). -/
structure Flags where
  s : Bool
  z : Bool
  ac : Bool
  p : Bool
  cy : Bool
  deriving DecidableEq, Repr

/-- The IOBus (10_state.md R31): shift register halves, 3-bit offset, two input latches. -/
structure IoBus where
  shh : Byte
  shl : Byte
  off : BitVec 3
  in1 : Byte
  in2 : Byte
  deriving DecidableEq, Repr

/-- One element of `Protected`: the inclusive range `first` to `last` (20_memory.md R54). -/
structure ProtRange where
  first : Word
  last : Word
  deriving DecidableEq, Repr

/-- The driver's moves between two steps (60_exceptions.md R251). The arguments are numbers as the driver presents them; the
interface refuses those out of range (R252, 45_io_shift_register.md R230). -/
inductive DriverEvent where
  /-- `Interrupt(n)` (60_exceptions.md R252). -/
  | interrupt (n : Nat)
  /-- `HandleInput(port, bit, pressed)` (45_io_shift_register.md R230). -/
  | input (port bit : Nat) (pressed : Bool)
  /-- `Reset()` (70_reset_and_hazards.md R280). -/
  | reset
  deriving DecidableEq, Repr

/-- Memory (20_memory.md R50) as the cells that differ from `Config.unlistedByte`, at strictly rising addresses. -/
abbrev Memory := List Host.Cell

/-- Everything the spec gives the machine (10_state.md R20 to R33), and two arguments of a launch that the fixed form of `step`
leaves no other place for: `prot` and `schedule` (DESIGN CHOICE, log entries 2 and 3). -/
structure State where
  /-- `A B C D E H L` (10_state.md R20). -/
  regs : Regs
  /-- `S Z AC P CY` (10_state.md R27). -/
  flags : Flags
  /-- `PC` (10_state.md R25). -/
  pc : Word
  /-- `SP` (10_state.md R26). -/
  sp : Word
  /-- `IE`, the interrupt-enabled latch (10_state.md R30). -/
  ie : Bool
  /-- `PEND`, the deferred-enable latch (10_state.md R30). -/
  pend : Bool
  /-- `HALT`, the halted bit (10_state.md R30). -/
  halt : Bool
  /-- `Mem` (10_state.md R32). -/
  mem : Memory
  /-- `SHH SHL OFF IN1 IN2` (10_state.md R31). -/
  io : IoBus
  /-- `Protected` (20_memory.md R54): configuration, never changed by a step. -/
  prot : List ProtRange
  /-- The driver's moves as `step` takes them (70_reset_and_hazards.md R287): the events of each step boundary still to come, the
  next first, and none past the end of the list. A schedule without an end is `Launch.events`. -/
  schedule : List (List DriverEvent)
  deriving DecidableEq, Repr

/-- The two faults (60_exceptions.md R259 to R262). Each ends the run, and each carries the state it leaves behind, which the
spec defines (R259, R260, R261). -/
inductive Fault where
  /-- `IllegalOpcode(pc0, op)` (60_exceptions.md R260): raised by the meanings of the twelve illegal rows, before anything is
  written; `left` is the state before the step. Safe: the spec's own fault. -/
  | illegalOpcode (pc0 : Word) (op : Byte) (left : State)
  /-- `ProtectedWrite(addr)` (60_exceptions.md R261): raised by `memWrite` alone, on an address that `range` (the first of
  `Protected` that does) holds; `left` has every effect listed before the write and none after it. Safe: the spec's own
  fault. -/
  | protectedWrite (addr : Word) (range : ProtRange) (left : State)
  deriving DecidableEq, Repr

/-- Refusals: an instruction without a meaning, and the driver's moves outside the interface. -/
inductive Refusal where
  /-- An instruction whose meaning is not written. Raised by `exec`'s arms only; no arm raises it now. Safe. -/
  | notModelled (mnemonic : String)
  /-- `Interrupt(n)` with `n` above 7 (60_exceptions.md R252, decision D11). Raised by `interrupt`. Safe. -/
  | vectorOutOfRange (n : Nat)
  /-- `HandleInput` with a port other than 1 and 2 or a bit above 7 (45_io_shift_register.md R230, decision D31). Raised by
  `handleInput`. Safe. -/
  | inputOutOfRange (port bit : Nat)
  deriving DecidableEq, Repr

/-! ## Field updates -/

/-- Replace the field `regs`. -/
def State.setRegs (s : State) (v : Regs) : State := { s with regs := v }

/-- Replace the field `flags`. -/
def State.setFlags (s : State) (v : Flags) : State := { s with flags := v }

/-- Replace the field `pc`. -/
def State.setPc (s : State) (v : Word) : State := { s with pc := v }

/-- Replace the field `sp`. -/
def State.setSp (s : State) (v : Word) : State := { s with sp := v }

/-- Replace the field `ie`. -/
def State.setIe (s : State) (v : Bool) : State := { s with ie := v }

/-- Replace the field `pend`. -/
def State.setPend (s : State) (v : Bool) : State := { s with pend := v }

/-- Replace the field `halt`. -/
def State.setHalt (s : State) (v : Bool) : State := { s with halt := v }

/-- Replace the field `mem`. -/
def State.setMem (s : State) (v : Memory) : State := { s with mem := v }

/-- Replace the field `io`. -/
def State.setIo (s : State) (v : IoBus) : State := { s with io := v }

/-- Replace the field `schedule`. -/
def State.setSchedule (s : State) (v : List (List DriverEvent)) : State := { s with schedule := v }

/-- Write register `A` (10_state.md R20). -/
def State.setA (s : State) (v : Byte) : State := s.setRegs { s.regs with a := v }

/-- Write register `B` (10_state.md R20). -/
def State.setB (s : State) (v : Byte) : State := s.setRegs { s.regs with b := v }

/-- Write register `C` (10_state.md R20). -/
def State.setC (s : State) (v : Byte) : State := s.setRegs { s.regs with c := v }

/-- Write register `D` (10_state.md R20). -/
def State.setD (s : State) (v : Byte) : State := s.setRegs { s.regs with d := v }

/-- Write register `E` (10_state.md R20). -/
def State.setE (s : State) (v : Byte) : State := s.setRegs { s.regs with e := v }

/-- Write register `H` (10_state.md R20). -/
def State.setH (s : State) (v : Byte) : State := s.setRegs { s.regs with h := v }

/-- Write register `L` (10_state.md R20). -/
def State.setL (s : State) (v : Byte) : State := s.setRegs { s.regs with l := v }

/-! ## Reset -/

/-- Every register 0x00 (10_state.md R35). -/
def Regs.reset : Regs := { a := 0x00, b := 0x00, c := 0x00, d := 0x00, e := 0x00, h := 0x00, l := 0x00 }

/-- Every flag 0 (10_state.md R35). -/
def Flags.reset : Flags := { s := false, z := false, ac := false, p := false, cy := false }

/-- The IOBus at 0 (10_state.md R35, decision D16). -/
def IoBus.reset : IoBus := { shh := 0x00, shl := 0x00, off := 0, in1 := 0x00, in2 := 0x00 }

/-- The state right after reset (10_state.md R35, 70_reset_and_hazards.md R280), of the launch with nothing loaded, nothing
protected and a driver that makes no move (log entries 1, 2 and 3; other launches: Machine/Launch.lean). -/
def State.reset : State where
  regs := Regs.reset
  flags := Flags.reset
  pc := 0x0000
  sp := 0x0000
  ie := false
  pend := false
  halt := false
  mem := []
  io := IoBus.reset
  prot := []
  schedule := []

end Sys2Proof.Machine
end

