-- ==== Sys2Proof/Machine/Flags.lean ====
section
/-! DEFINITION. Every flag computation of the spec, as functions of the operands and the flags before: result flags
(spec/10_state.md R27), the PSW byte (R28, R29), add and subtract (spec/41_arithmetic.md R130), increment and decrement (R139,
R140), decimal adjust (R146), the logical contract (spec/42_logical_rotate.md R160) and the rotates (R170 to R173). A function
that computes a result gives the result and the flags after. -/

namespace Sys2Proof.Machine

/-- Number of 1 bits of a byte. -/
def onesCount (v : Byte) : Nat :=
  (v.getLsbD 0).toNat + (v.getLsbD 1).toNat + (v.getLsbD 2).toNat + (v.getLsbD 3).toNat
    + (v.getLsbD 4).toNat + (v.getLsbD 5).toNat + (v.getLsbD 6).toNat + (v.getLsbD 7).toNat

/-- `even_parity` (10_state.md R27): the number of 1 bits is even. -/
def evenParity (v : Byte) : Bool := onesCount v % 2 == 0

/-- `SZP(v)` (10_state.md R27): Zero, Sign and Parity of a result byte; AuxCarry and Carry kept. -/
def szp (v : Byte) (f : Flags) : Flags := { f with z := v == 0, s := v.getLsbD 7, p := evenParity v }

/-- `Pack()` (10_state.md R28): the program-status byte, bit 7 first. -/
def pack (f : Flags) : Byte :=
  BitVec.ofBool f.s ++ BitVec.ofBool f.z ++ 0#1 ++ BitVec.ofBool f.ac ++ 0#1 ++ BitVec.ofBool f.p ++ 1#1
    ++ BitVec.ofBool f.cy

/-- `Unpack(b)` (10_state.md R29): bits 5, 3 and 1 are ignored. -/
def unpack (b : Byte) : Flags :=
  { s := b.getLsbD 7, z := b.getLsbD 6, ac := b.getLsbD 4, p := b.getLsbD 2, cy := b.getLsbD 0 }

/-- The flags an add or subtract of `a` and `b` with widened result `t` leaves (41_arithmetic.md R130): Carry is bit 8 of `t`,
AuxCarry bit 4 of `a ^ b ^ t`, the result flags from the low byte of `t`. All five are written. -/
def widenedFlags (a b : Byte) (t : Nat) : Flags :=
  szp (BitVec.ofNat 8 t)
    { s := false, z := false, p := false, ac := (a.toNat ^^^ b.toNat ^^^ t).testBit 4, cy := t.testBit 8 }

/-- `Add8(a, b, c)` (41_arithmetic.md R130): the sum in an unbounded integer. -/
def add8 (a b : Byte) (c : Bool) : Byte × Flags :=
  let t := a.toNat + b.toNat + c.toNat
  (BitVec.ofNat 8 t, widenedFlags a b t)

/-- `Sub8(a, b, c)` (41_arithmetic.md R130): the difference widened to 16 bits. AuxCarry is the borrow (decision D7). -/
def sub8 (a b : Byte) (c : Bool) : Byte × Flags :=
  let t := (a.toNat + 65536 - b.toNat - c.toNat) % 65536
  (BitVec.ofNat 8 t, widenedFlags a b t)

/-- The computation of `INR` (41_arithmetic.md R139): Carry kept. -/
def inc8 (v : Byte) (f : Flags) : Byte × Flags :=
  let t := v.toNat + 1
  (BitVec.ofNat 8 t, szp (BitVec.ofNat 8 t) { f with ac := (v.toNat ^^^ 1 ^^^ t).testBit 4 })

/-- The computation of `DCR` (41_arithmetic.md R140): Carry kept, AuxCarry is the borrow. -/
def dec8 (v : Byte) (f : Flags) : Byte × Flags :=
  let t := (v.toNat + 65536 - 1) % 65536
  (BitVec.ofNat 8 t, szp (BitVec.ofNat 8 t) { f with ac := (v.toNat ^^^ 1 ^^^ t).testBit 4 })

/-- First half of `DAA` (41_arithmetic.md R146): add 0x06 when the low nibble is above 9 or AuxCarry is set. AuxCarry becomes
the carry out of bit 3 of that addition, 0 without it; a carry out of bit 7 sets Carry. -/
def daaLow (a : Byte) (f : Flags) : Byte × Flags :=
  let t := a.toNat + 0x06
  if a.toNat % 16 > 9 ∨ f.ac = true then
    (BitVec.ofNat 8 t, { f with ac := decide (a.toNat % 16 + 6 > 0x0F), cy := f.cy || t.testBit 8 })
  else
    (a, { f with ac := false })

/-- Second half of `DAA` (41_arithmetic.md R146): add 0x60 and set Carry when the high nibble is above 9 or Carry is set. -/
def daaHigh (a : Byte) (f : Flags) : Byte × Flags :=
  if a.toNat / 16 > 9 ∨ f.cy = true then (a + 0x60, { f with cy := true }) else (a, f)

/-- The computation of `DAA` (41_arithmetic.md R146, decision D8): both halves, then the result flags of the final value. -/
def daa8 (a : Byte) (f : Flags) : Byte × Flags :=
  let lo := daaLow a f
  let hi := daaHigh lo.1 lo.2
  (hi.1, szp hi.1 hi.2)

/-- The flags a logical result `t` leaves with AuxCarry `ac` (42_logical_rotate.md R160): Carry cleared. -/
def logicFlags (t : Byte) (ac : Bool) : Flags := szp t { s := false, z := false, p := false, ac := ac, cy := false }

/-- `And8(a, b)` (42_logical_rotate.md R160): AuxCarry from bit 3 of the OR of the operands. -/
def and8 (a b : Byte) : Byte × Flags := (a &&& b, logicFlags (a &&& b) ((a ||| b).getLsbD 3))

/-- `Xor8(a, b)` (42_logical_rotate.md R160). -/
def xor8 (a b : Byte) : Byte × Flags := (a ^^^ b, logicFlags (a ^^^ b) false)

/-- `Or8(a, b)` (42_logical_rotate.md R160). -/
def or8 (a b : Byte) : Byte × Flags := (a ||| b, logicFlags (a ||| b) false)

/-- `RLC` (42_logical_rotate.md R170): bit 7 wraps into bit 0 and is the new Carry. -/
def rotLeft (a : Byte) : Byte × Bool := (a.extractLsb' 0 7 ++ a.extractLsb' 7 1, a.getLsbD 7)

/-- `RRC` (42_logical_rotate.md R171): bit 0 wraps into bit 7 and is the new Carry. -/
def rotRight (a : Byte) : Byte × Bool := (a.extractLsb' 0 1 ++ a.extractLsb' 1 7, a.getLsbD 0)

/-- `RAL` (42_logical_rotate.md R172): the old Carry enters bit 0, bit 7 is the new Carry. -/
def rotLeftCarry (a : Byte) (cy : Bool) : Byte × Bool := (a.extractLsb' 0 7 ++ BitVec.ofBool cy, a.getLsbD 7)

/-- `RAR` (42_logical_rotate.md R173): the old Carry enters bit 7, bit 0 is the new Carry. -/
def rotRightCarry (a : Byte) (cy : Bool) : Byte × Bool := (BitVec.ofBool cy ++ a.extractLsb' 1 7, a.getLsbD 0)

end Sys2Proof.Machine
end

