-- ==== Sys2Proof/Machine/Ops.lean ====
section
/-! DEFINITION. The named operations over memory and registers: the canonical byte memory, `MemRead` and `MemWrite`
(spec/20_memory.md R52, R53), the register pairs (spec/10_state.md R20), the stack (20_memory.md R58, R59), the program counter
(10_state.md R25), and taking an interrupt and returning from one (spec/60_exceptions.md R253, R256). -/

namespace Sys2Proof.Machine

/-- What a meaning answers. -/
abbrev Result := Host.Outcome State Fault Refusal

/-- Go on with `k` if `r` is a next state; a fault or a refusal ends the step there (60_exceptions.md R259). -/
def andThen (r : Result) (k : State → Result) : Result :=
  match r with
  | .next s => k s
  | .fault f => .fault f
  | .refused q => .refused q

/-! ## The byte memory -/

/-- The byte at an address; an unlisted one holds `Config.unlistedByte` (20_memory.md R50). -/
def Memory.byteAt : Memory → Nat → Byte
  | [], _ => Config.unlistedByte
  | (a, v) :: m, x => if x = a then v else Memory.byteAt m x

/-- Memory without the cell at `x`. -/
def Memory.erase : Memory → Nat → Memory
  | [], _ => []
  | (a, w) :: m, x => if a = x then Memory.erase m x else (a, w) :: Memory.erase m x

/-- List the cell `(x, v)` before the first higher address. -/
def Memory.insert : Memory → Nat → Byte → Memory
  | [], x, v => [(x, v)]
  | (a, w) :: m, x, v => if x < a then (x, v) :: (a, w) :: m else (a, w) :: Memory.insert m x v

/-- Store a byte: the old cell goes, and the new one is listed unless it is what an unlisted address holds. -/
def Memory.put (m : Memory) (x : Nat) (v : Byte) : Memory :=
  if v = Config.unlistedByte then Memory.erase m x else Memory.insert (Memory.erase m x) x v

/-- Addresses at least `lo`, strictly rising, below `MEMSIZE`, and no byte that an unlisted address would hold. -/
def Memory.wfFrom : Nat → Memory → Bool
  | _, [] => true
  | lo, (a, v) :: m => decide (lo ≤ a) && decide (a < Config.memSize) && (v != Config.unlistedByte) && Memory.wfFrom (a + 1) m

/-- The canonical form of memory. -/
def Memory.wf (m : Memory) : Bool := Memory.wfFrom 0 m

/-- `MemRead(addr, 1)` (20_memory.md R52): always succeeds, changes nothing. -/
def memRead (addr : Word) (s : State) : Byte := Memory.byteAt s.mem addr.toNat

/-- Both ends included (20_memory.md R54). -/
def ProtRange.holds (r : ProtRange) (addr : Word) : Bool :=
  decide (r.first.toNat ≤ addr.toNat) && decide (addr.toNat ≤ r.last.toNat)

/-- The first range of `Protected` that holds the address, if any does (20_memory.md R54, 60_exceptions.md R261). -/
def protectedBy (prot : List ProtRange) (addr : Word) : Option ProtRange := prot.find? fun r => r.holds addr

/-- `MemWrite(addr, 1, v)` (20_memory.md R53): stores, or raises `ProtectedWrite(addr)` with memory unchanged. -/
def memWrite (addr : Word) (v : Byte) (s : State) : Result :=
  match protectedBy s.prot addr with
  | some r => .fault (.protectedWrite addr r s)
  | none => .next (s.setMem (Memory.put s.mem addr.toNat v))

/-! ## Register pairs and the program counter -/

/-- `BC` (10_state.md R20, R23). -/
def State.bc (s : State) : Word := wordOf s.regs.b s.regs.c

/-- `DE`. -/
def State.de (s : State) : Word := wordOf s.regs.d s.regs.e

/-- `HL`. -/
def State.hl (s : State) : Word := wordOf s.regs.h s.regs.l

/-- `BC <- v` (00_scope.md R10). -/
def State.setBc (s : State) (v : Word) : State := (s.setB (hiByte v)).setC (loByte v)

/-- `DE <- v`. -/
def State.setDe (s : State) (v : Word) : State := (s.setD (hiByte v)).setE (loByte v)

/-- `HL <- v`. -/
def State.setHl (s : State) (v : Word) : State := (s.setH (hiByte v)).setL (loByte v)

/-- `pc <- pc0 +16 len` for an instruction that does not transfer control (10_state.md R25). -/
def State.advance (n : Nat) (s : State) : State := s.setPc (s.pc + BitVec.ofNat 16 n)

/-- End a handler by moving past its `n` bytes. -/
def finish (n : Nat) (s : State) : Result := .next (s.advance n)

/-! ## The stack -/

/-- `Push16(v)` (20_memory.md R58): high byte at `SP - 1`, then low byte at `SP - 2`, then `SP`. -/
def push16 (v : Word) (s : State) : Result :=
  andThen (memWrite (s.sp - 1) (hiByte v) s) fun s1 =>
    andThen (memWrite (s.sp - 2) (loByte v) s1) fun s2 => .next (s2.setSp (s.sp - 2))

/-- The word `Pop16()` returns (20_memory.md R59): low byte at `SP`, high byte at `SP + 1`. -/
def stackTop (s : State) : Word := wordOf (memRead (s.sp + 1) s) (memRead s.sp s)

/-- What `Pop16()` does to `SP` (20_memory.md R59). -/
def dropTop (s : State) : State := s.setSp (s.sp + 2)

/-! ## Taking an interrupt, calling and returning -/

/-- Push a return address and go to a target: `CALL`, taken `Ccc`, `RST` (44_branch.md R203, R204, R208). -/
def callTo (ret target : Word) (s : State) : Result := andThen (push16 ret s) fun s1 => .next (s1.setPc target)

/-- Entry of an accepted interrupt (60_exceptions.md R253): push `PC`, go to the vector, clear `IE` and `HALT`. Nothing else is
written (R271: not `PEND`). If the push faults, `PC`, `IE` and `HALT` are unchanged (R261, decision D28). -/
def interruptEntry (vector : Word) (s : State) : Result :=
  andThen (push16 s.pc s) fun s1 => .next (((s1.setPc vector).setIe false).setHalt false)

/-- `pc <- Pop16()`: the return from a subroutine and from an interrupt handler (44_branch.md R205, 60_exceptions.md R256). -/
def returnToTop (s : State) : State := (dropTop s).setPc (stackTop s)

end Sys2Proof.Machine
end

