-- ==== Sys2Proof/Syntax.lean ====
section
/-! DEFINITION. The instructions, one constructor per row of spec/opcode_table.json (256 rows, one per opcode byte), and the
operand selectors of spec/10_state.md R21, R23, R24 and the conditions of spec/44_branch.md R200. The twelve illegal opcode
values are rows of the table too (spec/30_encoding.md R92), so each is a constructor; its meaning is the fault R260. -/

namespace Sys2Proof

/-- The 3-bit selector (10_state.md R21): seven registers and `m`, the byte of memory at `HL`. In the order 000 to 111. -/
inductive Sel where
  | b | c | d | e | h | l | m | a
  deriving DecidableEq, Repr

/-- The 2-bit pair selector outside `PUSH` and `POP` (10_state.md R23), in the order 00 to 11. -/
inductive Pair where
  | bc | de | hl | sp
  deriving DecidableEq, Repr

/-- The 2-bit pair selector in `PUSH` and `POP` (10_state.md R24), in the order 00 to 11. -/
inductive StackPair where
  | bc | de | hl | psw
  deriving DecidableEq, Repr

/-- The accumulator operations of the field `ooo` (30_encoding.md R89), in the order 000 to 111. -/
inductive AluOp where
  | add | adc | sub | sbb | ana | xra | ora | cmp
  deriving DecidableEq, Repr

/-- The branch conditions (44_branch.md R200), in the order 000 to 111. -/
inductive Cond where
  | nz | z | nc | c | po | pe | p | m
  deriving DecidableEq, Repr

/-- One constructor per row of spec/opcode_table.json: the three-byte instructions in opcode order, then the two-byte ones, the
one-byte ones and the illegal values (the constructors with operands stand first because Lean's run time numbers only so
many constructors with fields). `d8` is byte 2, `d16` and `a16` are bytes 2 (low) and
3 (high). -/
inductive Instr where
  /-- 0x01 `LXI B,d16`, R113. -/
  | lxiB (d16 : Word)
  /-- 0x11 `LXI D,d16`, R113. -/
  | lxiD (d16 : Word)
  /-- 0x21 `LXI H,d16`, R113. -/
  | lxiH (d16 : Word)
  /-- 0x22 `SHLD a16`, R118. -/
  | shld (a16 : Word)
  /-- 0x2A `LHLD a16`, R117. -/
  | lhld (a16 : Word)
  /-- 0x31 `LXI SP,d16`, R113. -/
  | lxiSP (d16 : Word)
  /-- 0x32 `STA a16`, R115. -/
  | sta (a16 : Word)
  /-- 0x3A `LDA a16`, R114. -/
  | lda (a16 : Word)
  /-- 0xC2 `JNZ a16`, R202. -/
  | jnz (a16 : Word)
  /-- 0xC3 `JMP a16`, R201. -/
  | jmp (a16 : Word)
  /-- 0xC4 `CNZ a16`, R204. -/
  | cnz (a16 : Word)
  /-- 0xCA `JZ a16`, R202. -/
  | jz (a16 : Word)
  /-- 0xCC `CZ a16`, R204. -/
  | cz (a16 : Word)
  /-- 0xCD `CALL a16`, R203. -/
  | call (a16 : Word)
  /-- 0xD2 `JNC a16`, R202. -/
  | jnc (a16 : Word)
  /-- 0xD4 `CNC a16`, R204. -/
  | cnc (a16 : Word)
  /-- 0xDA `JC a16`, R202. -/
  | jc (a16 : Word)
  /-- 0xDC `CC a16`, R204. -/
  | cc (a16 : Word)
  /-- 0xE2 `JPO a16`, R202. -/
  | jpo (a16 : Word)
  /-- 0xE4 `CPO a16`, R204. -/
  | cpo (a16 : Word)
  /-- 0xEA `JPE a16`, R202. -/
  | jpe (a16 : Word)
  /-- 0xEC `CPE a16`, R204. -/
  | cpe (a16 : Word)
  /-- 0xF2 `JP a16`, R202. -/
  | jp (a16 : Word)
  /-- 0xF4 `CP a16`, R204. -/
  | cp (a16 : Word)
  /-- 0xFA `JM a16`, R202. -/
  | jm (a16 : Word)
  /-- 0xFC `CM a16`, R204. -/
  | cm (a16 : Word)
  /-- 0x06 `MVI B,d8`, R112. -/
  | mviB (d8 : Byte)
  /-- 0x0E `MVI C,d8`, R112. -/
  | mviC (d8 : Byte)
  /-- 0x16 `MVI D,d8`, R112. -/
  | mviD (d8 : Byte)
  /-- 0x1E `MVI E,d8`, R112. -/
  | mviE (d8 : Byte)
  /-- 0x26 `MVI H,d8`, R112. -/
  | mviH (d8 : Byte)
  /-- 0x2E `MVI L,d8`, R112. -/
  | mviL (d8 : Byte)
  /-- 0x36 `MVI M,d8`, R112. -/
  | mviM (d8 : Byte)
  /-- 0x3E `MVI A,d8`, R112. -/
  | mviA (d8 : Byte)
  /-- 0xC6 `ADI d8`, R135. -/
  | adi (d8 : Byte)
  /-- 0xCE `ACI d8`, R136. -/
  | aci (d8 : Byte)
  /-- 0xD3 `OUT d8`, R221. -/
  | out (d8 : Byte)
  /-- 0xD6 `SUI d8`, R137. -/
  | sui (d8 : Byte)
  /-- 0xDB `IN d8`, R220. -/
  | inp (d8 : Byte)
  /-- 0xDE `SBI d8`, R138. -/
  | sbi (d8 : Byte)
  /-- 0xE6 `ANI d8`, R162. -/
  | ani (d8 : Byte)
  /-- 0xEE `XRI d8`, R164. -/
  | xri (d8 : Byte)
  /-- 0xF6 `ORI d8`, R166. -/
  | ori (d8 : Byte)
  /-- 0xFE `CPI d8`, R168. -/
  | cpi (d8 : Byte)
  /-- 0x00 `NOP`, R244. -/
  | nop
  /-- 0x02 `STAX B`, R120. -/
  | staxB
  /-- 0x03 `INX B`, R141. -/
  | inxB
  /-- 0x04 `INR B`, R139. -/
  | inrB
  /-- 0x05 `DCR B`, R140. -/
  | dcrB
  /-- 0x07 `RLC`, R170. -/
  | rlc
  /-- 0x09 `DAD B`, R145. -/
  | dadB
  /-- 0x0A `LDAX B`, R119. -/
  | ldaxB
  /-- 0x0B `DCX B`, R142. -/
  | dcxB
  /-- 0x0C `INR C`, R139. -/
  | inrC
  /-- 0x0D `DCR C`, R140. -/
  | dcrC
  /-- 0x0F `RRC`, R171. -/
  | rrc
  /-- 0x12 `STAX D`, R120. -/
  | staxD
  /-- 0x13 `INX D`, R141. -/
  | inxD
  /-- 0x14 `INR D`, R139. -/
  | inrD
  /-- 0x15 `DCR D`, R140. -/
  | dcrD
  /-- 0x17 `RAL`, R172. -/
  | ral
  /-- 0x19 `DAD D`, R145. -/
  | dadD
  /-- 0x1A `LDAX D`, R119. -/
  | ldaxD
  /-- 0x1B `DCX D`, R142. -/
  | dcxD
  /-- 0x1C `INR E`, R139. -/
  | inrE
  /-- 0x1D `DCR E`, R140. -/
  | dcrE
  /-- 0x1F `RAR`, R173. -/
  | rar
  /-- 0x23 `INX H`, R141. -/
  | inxH
  /-- 0x24 `INR H`, R139. -/
  | inrH
  /-- 0x25 `DCR H`, R140. -/
  | dcrH
  /-- 0x27 `DAA`, R146. -/
  | daa
  /-- 0x29 `DAD H`, R145. -/
  | dadH
  /-- 0x2B `DCX H`, R142. -/
  | dcxH
  /-- 0x2C `INR L`, R139. -/
  | inrL
  /-- 0x2D `DCR L`, R140. -/
  | dcrL
  /-- 0x2F `CMA`, R174. -/
  | cma
  /-- 0x33 `INX SP`, R141. -/
  | inxSP
  /-- 0x34 `INR M`, R139. -/
  | inrM
  /-- 0x35 `DCR M`, R140. -/
  | dcrM
  /-- 0x37 `STC`, R175. -/
  | stc
  /-- 0x39 `DAD SP`, R145. -/
  | dadSP
  /-- 0x3B `DCX SP`, R142. -/
  | dcxSP
  /-- 0x3C `INR A`, R139. -/
  | inrA
  /-- 0x3D `DCR A`, R140. -/
  | dcrA
  /-- 0x3F `CMC`, R176. -/
  | cmc
  /-- 0x40 `MOV B,B`, R111. -/
  | movBB
  /-- 0x41 `MOV B,C`, R111. -/
  | movBC
  /-- 0x42 `MOV B,D`, R111. -/
  | movBD
  /-- 0x43 `MOV B,E`, R111. -/
  | movBE
  /-- 0x44 `MOV B,H`, R111. -/
  | movBH
  /-- 0x45 `MOV B,L`, R111. -/
  | movBL
  /-- 0x46 `MOV B,M`, R111. -/
  | movBM
  /-- 0x47 `MOV B,A`, R111. -/
  | movBA
  /-- 0x48 `MOV C,B`, R111. -/
  | movCB
  /-- 0x49 `MOV C,C`, R111. -/
  | movCC
  /-- 0x4A `MOV C,D`, R111. -/
  | movCD
  /-- 0x4B `MOV C,E`, R111. -/
  | movCE
  /-- 0x4C `MOV C,H`, R111. -/
  | movCH
  /-- 0x4D `MOV C,L`, R111. -/
  | movCL
  /-- 0x4E `MOV C,M`, R111. -/
  | movCM
  /-- 0x4F `MOV C,A`, R111. -/
  | movCA
  /-- 0x50 `MOV D,B`, R111. -/
  | movDB
  /-- 0x51 `MOV D,C`, R111. -/
  | movDC
  /-- 0x52 `MOV D,D`, R111. -/
  | movDD
  /-- 0x53 `MOV D,E`, R111. -/
  | movDE
  /-- 0x54 `MOV D,H`, R111. -/
  | movDH
  /-- 0x55 `MOV D,L`, R111. -/
  | movDL
  /-- 0x56 `MOV D,M`, R111. -/
  | movDM
  /-- 0x57 `MOV D,A`, R111. -/
  | movDA
  /-- 0x58 `MOV E,B`, R111. -/
  | movEB
  /-- 0x59 `MOV E,C`, R111. -/
  | movEC
  /-- 0x5A `MOV E,D`, R111. -/
  | movED
  /-- 0x5B `MOV E,E`, R111. -/
  | movEE
  /-- 0x5C `MOV E,H`, R111. -/
  | movEH
  /-- 0x5D `MOV E,L`, R111. -/
  | movEL
  /-- 0x5E `MOV E,M`, R111. -/
  | movEM
  /-- 0x5F `MOV E,A`, R111. -/
  | movEA
  /-- 0x60 `MOV H,B`, R111. -/
  | movHB
  /-- 0x61 `MOV H,C`, R111. -/
  | movHC
  /-- 0x62 `MOV H,D`, R111. -/
  | movHD
  /-- 0x63 `MOV H,E`, R111. -/
  | movHE
  /-- 0x64 `MOV H,H`, R111. -/
  | movHH
  /-- 0x65 `MOV H,L`, R111. -/
  | movHL
  /-- 0x66 `MOV H,M`, R111. -/
  | movHM
  /-- 0x67 `MOV H,A`, R111. -/
  | movHA
  /-- 0x68 `MOV L,B`, R111. -/
  | movLB
  /-- 0x69 `MOV L,C`, R111. -/
  | movLC
  /-- 0x6A `MOV L,D`, R111. -/
  | movLD
  /-- 0x6B `MOV L,E`, R111. -/
  | movLE
  /-- 0x6C `MOV L,H`, R111. -/
  | movLH
  /-- 0x6D `MOV L,L`, R111. -/
  | movLL
  /-- 0x6E `MOV L,M`, R111. -/
  | movLM
  /-- 0x6F `MOV L,A`, R111. -/
  | movLA
  /-- 0x70 `MOV M,B`, R111. -/
  | movMB
  /-- 0x71 `MOV M,C`, R111. -/
  | movMC
  /-- 0x72 `MOV M,D`, R111. -/
  | movMD
  /-- 0x73 `MOV M,E`, R111. -/
  | movME
  /-- 0x74 `MOV M,H`, R111. -/
  | movMH
  /-- 0x75 `MOV M,L`, R111. -/
  | movML
  /-- 0x76 `HLT`, R242. -/
  | hlt
  /-- 0x77 `MOV M,A`, R111. -/
  | movMA
  /-- 0x78 `MOV A,B`, R111. -/
  | movAB
  /-- 0x79 `MOV A,C`, R111. -/
  | movAC
  /-- 0x7A `MOV A,D`, R111. -/
  | movAD
  /-- 0x7B `MOV A,E`, R111. -/
  | movAE
  /-- 0x7C `MOV A,H`, R111. -/
  | movAH
  /-- 0x7D `MOV A,L`, R111. -/
  | movAL
  /-- 0x7E `MOV A,M`, R111. -/
  | movAM
  /-- 0x7F `MOV A,A`, R111. -/
  | movAA
  /-- 0x80 `ADD B`, R131. -/
  | addB
  /-- 0x81 `ADD C`, R131. -/
  | addC
  /-- 0x82 `ADD D`, R131. -/
  | addD
  /-- 0x83 `ADD E`, R131. -/
  | addE
  /-- 0x84 `ADD H`, R131. -/
  | addH
  /-- 0x85 `ADD L`, R131. -/
  | addL
  /-- 0x86 `ADD M`, R131. -/
  | addM
  /-- 0x87 `ADD A`, R131. -/
  | addA
  /-- 0x88 `ADC B`, R132. -/
  | adcB
  /-- 0x89 `ADC C`, R132. -/
  | adcC
  /-- 0x8A `ADC D`, R132. -/
  | adcD
  /-- 0x8B `ADC E`, R132. -/
  | adcE
  /-- 0x8C `ADC H`, R132. -/
  | adcH
  /-- 0x8D `ADC L`, R132. -/
  | adcL
  /-- 0x8E `ADC M`, R132. -/
  | adcM
  /-- 0x8F `ADC A`, R132. -/
  | adcA
  /-- 0x90 `SUB B`, R133. -/
  | subB
  /-- 0x91 `SUB C`, R133. -/
  | subC
  /-- 0x92 `SUB D`, R133. -/
  | subD
  /-- 0x93 `SUB E`, R133. -/
  | subE
  /-- 0x94 `SUB H`, R133. -/
  | subH
  /-- 0x95 `SUB L`, R133. -/
  | subL
  /-- 0x96 `SUB M`, R133. -/
  | subM
  /-- 0x97 `SUB A`, R133. -/
  | subA
  /-- 0x98 `SBB B`, R134. -/
  | sbbB
  /-- 0x99 `SBB C`, R134. -/
  | sbbC
  /-- 0x9A `SBB D`, R134. -/
  | sbbD
  /-- 0x9B `SBB E`, R134. -/
  | sbbE
  /-- 0x9C `SBB H`, R134. -/
  | sbbH
  /-- 0x9D `SBB L`, R134. -/
  | sbbL
  /-- 0x9E `SBB M`, R134. -/
  | sbbM
  /-- 0x9F `SBB A`, R134. -/
  | sbbA
  /-- 0xA0 `ANA B`, R161. -/
  | anaB
  /-- 0xA1 `ANA C`, R161. -/
  | anaC
  /-- 0xA2 `ANA D`, R161. -/
  | anaD
  /-- 0xA3 `ANA E`, R161. -/
  | anaE
  /-- 0xA4 `ANA H`, R161. -/
  | anaH
  /-- 0xA5 `ANA L`, R161. -/
  | anaL
  /-- 0xA6 `ANA M`, R161. -/
  | anaM
  /-- 0xA7 `ANA A`, R161. -/
  | anaA
  /-- 0xA8 `XRA B`, R163. -/
  | xraB
  /-- 0xA9 `XRA C`, R163. -/
  | xraC
  /-- 0xAA `XRA D`, R163. -/
  | xraD
  /-- 0xAB `XRA E`, R163. -/
  | xraE
  /-- 0xAC `XRA H`, R163. -/
  | xraH
  /-- 0xAD `XRA L`, R163. -/
  | xraL
  /-- 0xAE `XRA M`, R163. -/
  | xraM
  /-- 0xAF `XRA A`, R163. -/
  | xraA
  /-- 0xB0 `ORA B`, R165. -/
  | oraB
  /-- 0xB1 `ORA C`, R165. -/
  | oraC
  /-- 0xB2 `ORA D`, R165. -/
  | oraD
  /-- 0xB3 `ORA E`, R165. -/
  | oraE
  /-- 0xB4 `ORA H`, R165. -/
  | oraH
  /-- 0xB5 `ORA L`, R165. -/
  | oraL
  /-- 0xB6 `ORA M`, R165. -/
  | oraM
  /-- 0xB7 `ORA A`, R165. -/
  | oraA
  /-- 0xB8 `CMP B`, R167. -/
  | cmpB
  /-- 0xB9 `CMP C`, R167. -/
  | cmpC
  /-- 0xBA `CMP D`, R167. -/
  | cmpD
  /-- 0xBB `CMP E`, R167. -/
  | cmpE
  /-- 0xBC `CMP H`, R167. -/
  | cmpH
  /-- 0xBD `CMP L`, R167. -/
  | cmpL
  /-- 0xBE `CMP M`, R167. -/
  | cmpM
  /-- 0xBF `CMP A`, R167. -/
  | cmpA
  /-- 0xC0 `RNZ`, R206. -/
  | rnz
  /-- 0xC1 `POP B`, R192. -/
  | popB
  /-- 0xC5 `PUSH B`, R190. -/
  | pushB
  /-- 0xC7 `RST 0`, R208. -/
  | rst0
  /-- 0xC8 `RZ`, R206. -/
  | rz
  /-- 0xC9 `RET`, R205. -/
  | ret
  /-- 0xCF `RST 1`, R208. -/
  | rst1
  /-- 0xD0 `RNC`, R206. -/
  | rnc
  /-- 0xD1 `POP D`, R192. -/
  | popD
  /-- 0xD5 `PUSH D`, R190. -/
  | pushD
  /-- 0xD7 `RST 2`, R208. -/
  | rst2
  /-- 0xD8 `RC`, R206. -/
  | rc
  /-- 0xDF `RST 3`, R208. -/
  | rst3
  /-- 0xE0 `RPO`, R206. -/
  | rpo
  /-- 0xE1 `POP H`, R192. -/
  | popH
  /-- 0xE3 `XTHL`, R194. -/
  | xthl
  /-- 0xE5 `PUSH H`, R190. -/
  | pushH
  /-- 0xE7 `RST 4`, R208. -/
  | rst4
  /-- 0xE8 `RPE`, R206. -/
  | rpe
  /-- 0xE9 `PCHL`, R207. -/
  | pchl
  /-- 0xEB `XCHG`, R121. -/
  | xchg
  /-- 0xEF `RST 5`, R208. -/
  | rst5
  /-- 0xF0 `RP`, R206. -/
  | rp
  /-- 0xF1 `POP PSW`, R193. -/
  | popPSW
  /-- 0xF3 `DI`, R241. -/
  | di
  /-- 0xF5 `PUSH PSW`, R191. -/
  | pushPSW
  /-- 0xF7 `RST 6`, R208. -/
  | rst6
  /-- 0xF8 `RM`, R206. -/
  | rm
  /-- 0xF9 `SPHL`, R195. -/
  | sphl
  /-- 0xFB `EI`, R240. -/
  | ei
  /-- 0xFF `RST 7`, R208. -/
  | rst7
  /-- 0x08 `(illegal)`, R92. -/
  | illegal08
  /-- 0x10 `(illegal)`, R92. -/
  | illegal10
  /-- 0x18 `(illegal)`, R92. -/
  | illegal18
  /-- 0x20 `(illegal)`, R92. -/
  | illegal20
  /-- 0x28 `(illegal)`, R92. -/
  | illegal28
  /-- 0x30 `(illegal)`, R92. -/
  | illegal30
  /-- 0x38 `(illegal)`, R92. -/
  | illegal38
  /-- 0xCB `(illegal)`, R92. -/
  | illegalCB
  /-- 0xD9 `(illegal)`, R92. -/
  | illegalD9
  /-- 0xDD `(illegal)`, R92. -/
  | illegalDD
  /-- 0xED `(illegal)`, R92. -/
  | illegalED
  /-- 0xFD `(illegal)`, R92. -/
  | illegalFD
  deriving DecidableEq, Repr

end Sys2Proof
end

