-- ==== Sys2Proof/Machine/Operands.lean ====
section
/-! DEFINITION. Every operand form: the 3-bit selector with the memory operand (spec/10_state.md R21, R22), the pair selectors
(R23, R24) and the branch conditions (spec/44_branch.md R200). -/

namespace Sys2Proof.Machine

/-- `RdOp(sel)` (10_state.md R22). -/
def rdOp (sel : Sel) (s : State) : Byte :=
  match sel with
  | .b => s.regs.b
  | .c => s.regs.c
  | .d => s.regs.d
  | .e => s.regs.e
  | .h => s.regs.h
  | .l => s.regs.l
  | .m => memRead s.hl s
  | .a => s.regs.a

/-- `WrOp(sel, v)` (10_state.md R22); selector 6 can raise `ProtectedWrite(HL)`. -/
def wrOp (sel : Sel) (v : Byte) (s : State) : Result :=
  match sel with
  | .b => .next (s.setB v)
  | .c => .next (s.setC v)
  | .d => .next (s.setD v)
  | .e => .next (s.setE v)
  | .h => .next (s.setH v)
  | .l => .next (s.setL v)
  | .m => memWrite s.hl v s
  | .a => .next (s.setA v)

/-- `rp[j]` outside `PUSH` and `POP` (10_state.md R23). -/
def rdPair (p : Pair) (s : State) : Word :=
  match p with
  | .bc => s.bc
  | .de => s.de
  | .hl => s.hl
  | .sp => s.sp

/-- `rp[j] <- v` outside `PUSH` and `POP` (10_state.md R23). -/
def wrPair (p : Pair) (v : Word) (s : State) : State :=
  match p with
  | .bc => s.setBc v
  | .de => s.setDe v
  | .hl => s.setHl v
  | .sp => s.setSp v

/-- The word `PUSH` pushes (10_state.md R24); for `PSW` it is `A` and the packed flags. -/
def rdStackPair (p : StackPair) (s : State) : Word :=
  match p with
  | .bc => s.bc
  | .de => s.de
  | .hl => s.hl
  | .psw => wordOf s.regs.a (pack s.flags)

/-- Where `POP` puts the word it pops (10_state.md R24, R29). -/
def wrStackPair (p : StackPair) (v : Word) (s : State) : State :=
  match p with
  | .bc => s.setBc v
  | .de => s.setDe v
  | .hl => s.setHl v
  | .psw => (s.setFlags (unpack (loByte v))).setA (hiByte v)

/-- `Cond(ccc)` (44_branch.md R200). -/
def condHolds (cond : Cond) (f : Flags) : Bool :=
  match cond with
  | .nz => !f.z
  | .z => f.z
  | .nc => !f.cy
  | .c => f.cy
  | .po => !f.p
  | .pe => f.p
  | .p => !f.s
  | .m => f.s

end Sys2Proof.Machine
end

