-- ==== Sys2Proof/Machine/Arithmetic.lean ====
section
/-! DEFINITION. Arithmetic instructions (spec/41_arithmetic.md R130 to R148). -/

namespace Sys2Proof.Machine

/-- `A <- Add8(A, b, c)`, all five flags (R130, R131, R132, R135, R136). -/
def aluAdd (b : Byte) (c : Bool) (len : Nat) (s : State) : Result :=
  finish len ((s.setA (add8 s.regs.a b c).1).setFlags (add8 s.regs.a b c).2)

/-- `A <- Sub8(A, b, c)`, all five flags (R130, R133, R134, R137, R138). -/
def aluSub (b : Byte) (c : Bool) (len : Nat) (s : State) : Result :=
  finish len ((s.setA (sub8 s.regs.a b c).1).setFlags (sub8 s.regs.a b c).2)

/-- `INR d` (R139): the flags are written after the operand, so a protected `M` leaves them (60_exceptions.md R261). -/
def incOp (sel : Sel) (s : State) : Result :=
  andThen (wrOp sel (inc8 (rdOp sel s) s.flags).1 s) fun s1 => finish 1 (s1.setFlags (inc8 (rdOp sel s) s.flags).2)

/-- `DCR d` (R140). -/
def decOp (sel : Sel) (s : State) : Result :=
  andThen (wrOp sel (dec8 (rdOp sel s) s.flags).1 s) fun s1 => finish 1 (s1.setFlags (dec8 (rdOp sel s) s.flags).2)

/-- `INX rp` (R141): no flag. -/
def inxOp (p : Pair) (s : State) : Result := finish 1 (wrPair p (rdPair p s + 1) s)

/-- `DCX rp` (R142): no flag. -/
def dcxOp (p : Pair) (s : State) : Result := finish 1 (wrPair p (rdPair p s - 1) s)

/-- `DAD rp` (R145): the sum in an unbounded integer, Carry its bit 16, no other flag. -/
def dadOp (p : Pair) (s : State) : Result :=
  let t := s.hl.toNat + (rdPair p s).toNat
  finish 1 ((s.setHl (BitVec.ofNat 16 t)).setFlags { s.flags with cy := t.testBit 16 })

/-- `ADD B` (R131). -/
def execAddB (s : State) : Result := aluAdd (rdOp .b s) false 1 s

/-- `ADD C` (R131). -/
def execAddC (s : State) : Result := aluAdd (rdOp .c s) false 1 s

/-- `ADD D` (R131). -/
def execAddD (s : State) : Result := aluAdd (rdOp .d s) false 1 s

/-- `ADD E` (R131). -/
def execAddE (s : State) : Result := aluAdd (rdOp .e s) false 1 s

/-- `ADD H` (R131). -/
def execAddH (s : State) : Result := aluAdd (rdOp .h s) false 1 s

/-- `ADD L` (R131). -/
def execAddL (s : State) : Result := aluAdd (rdOp .l s) false 1 s

/-- `ADD M` (R131). -/
def execAddM (s : State) : Result := aluAdd (rdOp .m s) false 1 s

/-- `ADD A` (R131). -/
def execAddA (s : State) : Result := aluAdd (rdOp .a s) false 1 s

/-- `ADC B` (R132). -/
def execAdcB (s : State) : Result := aluAdd (rdOp .b s) s.flags.cy 1 s

/-- `ADC C` (R132). -/
def execAdcC (s : State) : Result := aluAdd (rdOp .c s) s.flags.cy 1 s

/-- `ADC D` (R132). -/
def execAdcD (s : State) : Result := aluAdd (rdOp .d s) s.flags.cy 1 s

/-- `ADC E` (R132). -/
def execAdcE (s : State) : Result := aluAdd (rdOp .e s) s.flags.cy 1 s

/-- `ADC H` (R132). -/
def execAdcH (s : State) : Result := aluAdd (rdOp .h s) s.flags.cy 1 s

/-- `ADC L` (R132). -/
def execAdcL (s : State) : Result := aluAdd (rdOp .l s) s.flags.cy 1 s

/-- `ADC M` (R132). -/
def execAdcM (s : State) : Result := aluAdd (rdOp .m s) s.flags.cy 1 s

/-- `ADC A` (R132). -/
def execAdcA (s : State) : Result := aluAdd (rdOp .a s) s.flags.cy 1 s

/-- `SUB B` (R133). -/
def execSubB (s : State) : Result := aluSub (rdOp .b s) false 1 s

/-- `SUB C` (R133). -/
def execSubC (s : State) : Result := aluSub (rdOp .c s) false 1 s

/-- `SUB D` (R133). -/
def execSubD (s : State) : Result := aluSub (rdOp .d s) false 1 s

/-- `SUB E` (R133). -/
def execSubE (s : State) : Result := aluSub (rdOp .e s) false 1 s

/-- `SUB H` (R133). -/
def execSubH (s : State) : Result := aluSub (rdOp .h s) false 1 s

/-- `SUB L` (R133). -/
def execSubL (s : State) : Result := aluSub (rdOp .l s) false 1 s

/-- `SUB M` (R133). -/
def execSubM (s : State) : Result := aluSub (rdOp .m s) false 1 s

/-- `SUB A` (R133). -/
def execSubA (s : State) : Result := aluSub (rdOp .a s) false 1 s

/-- `SBB B` (R134). -/
def execSbbB (s : State) : Result := aluSub (rdOp .b s) s.flags.cy 1 s

/-- `SBB C` (R134). -/
def execSbbC (s : State) : Result := aluSub (rdOp .c s) s.flags.cy 1 s

/-- `SBB D` (R134). -/
def execSbbD (s : State) : Result := aluSub (rdOp .d s) s.flags.cy 1 s

/-- `SBB E` (R134). -/
def execSbbE (s : State) : Result := aluSub (rdOp .e s) s.flags.cy 1 s

/-- `SBB H` (R134). -/
def execSbbH (s : State) : Result := aluSub (rdOp .h s) s.flags.cy 1 s

/-- `SBB L` (R134). -/
def execSbbL (s : State) : Result := aluSub (rdOp .l s) s.flags.cy 1 s

/-- `SBB M` (R134). -/
def execSbbM (s : State) : Result := aluSub (rdOp .m s) s.flags.cy 1 s

/-- `SBB A` (R134). -/
def execSbbA (s : State) : Result := aluSub (rdOp .a s) s.flags.cy 1 s

/-- `ADI d8` (R135). -/
def execAdi (d8 : Byte) (s : State) : Result := aluAdd d8 false 2 s

/-- `ACI d8` (R136). -/
def execAci (d8 : Byte) (s : State) : Result := aluAdd d8 s.flags.cy 2 s

/-- `SUI d8` (R137). -/
def execSui (d8 : Byte) (s : State) : Result := aluSub d8 false 2 s

/-- `SBI d8` (R138). -/
def execSbi (d8 : Byte) (s : State) : Result := aluSub d8 s.flags.cy 2 s

/-- `INR B` (R139). -/
def execInrB (s : State) : Result := incOp .b s

/-- `INR C` (R139). -/
def execInrC (s : State) : Result := incOp .c s

/-- `INR D` (R139). -/
def execInrD (s : State) : Result := incOp .d s

/-- `INR E` (R139). -/
def execInrE (s : State) : Result := incOp .e s

/-- `INR H` (R139). -/
def execInrH (s : State) : Result := incOp .h s

/-- `INR L` (R139). -/
def execInrL (s : State) : Result := incOp .l s

/-- `INR M` (R139). -/
def execInrM (s : State) : Result := incOp .m s

/-- `INR A` (R139). -/
def execInrA (s : State) : Result := incOp .a s

/-- `DCR B` (R140). -/
def execDcrB (s : State) : Result := decOp .b s

/-- `DCR C` (R140). -/
def execDcrC (s : State) : Result := decOp .c s

/-- `DCR D` (R140). -/
def execDcrD (s : State) : Result := decOp .d s

/-- `DCR E` (R140). -/
def execDcrE (s : State) : Result := decOp .e s

/-- `DCR H` (R140). -/
def execDcrH (s : State) : Result := decOp .h s

/-- `DCR L` (R140). -/
def execDcrL (s : State) : Result := decOp .l s

/-- `DCR M` (R140). -/
def execDcrM (s : State) : Result := decOp .m s

/-- `DCR A` (R140). -/
def execDcrA (s : State) : Result := decOp .a s

/-- `INX B` (R141). -/
def execInxB (s : State) : Result := inxOp .bc s

/-- `INX D` (R141). -/
def execInxD (s : State) : Result := inxOp .de s

/-- `INX H` (R141). -/
def execInxH (s : State) : Result := inxOp .hl s

/-- `INX SP` (R141). -/
def execInxSP (s : State) : Result := inxOp .sp s

/-- `DCX B` (R142). -/
def execDcxB (s : State) : Result := dcxOp .bc s

/-- `DCX D` (R142). -/
def execDcxD (s : State) : Result := dcxOp .de s

/-- `DCX H` (R142). -/
def execDcxH (s : State) : Result := dcxOp .hl s

/-- `DCX SP` (R142). -/
def execDcxSP (s : State) : Result := dcxOp .sp s

/-- `DAD B` (R145). -/
def execDadB (s : State) : Result := dadOp .bc s

/-- `DAD D` (R145). -/
def execDadD (s : State) : Result := dadOp .de s

/-- `DAD H` (R145). -/
def execDadH (s : State) : Result := dadOp .hl s

/-- `DAD SP` (R145). -/
def execDadSP (s : State) : Result := dadOp .sp s

/-- `DAA` (R146). -/
def execDaa (s : State) : Result :=
  finish 1 ((s.setA (daa8 s.regs.a s.flags).1).setFlags (daa8 s.regs.a s.flags).2)

end Sys2Proof.Machine
end

