-- ==== Sys2Proof/Machine/Branch.lean ====
section
/-! DEFINITION. Control-transfer instructions (spec/44_branch.md R200 to R209). None writes a flag (R209). -/

namespace Sys2Proof.Machine

/-- `Jcc a16` (R202). -/
def jumpIf (cond : Cond) (a16 : Word) (s : State) : Result :=
  if condHolds cond s.flags then .next (s.setPc a16) else finish 3 s

/-- `Ccc a16` (R204): not taken, no stack access is made. -/
def callIf (cond : Cond) (a16 : Word) (s : State) : Result :=
  if condHolds cond s.flags then callTo (s.pc + 3) a16 s else finish 3 s

/-- `Rcc` (R206). -/
def returnIf (cond : Cond) (s : State) : Result :=
  if condHolds cond s.flags then .next (returnToTop s) else finish 1 s

/-- `RST n` (R208): a one-byte call to address `8 * n`; `IE` unchanged. -/
def rstOp (n : BitVec 3) (s : State) : Result := callTo (s.pc + 1) (n.setWidth 16 <<< 3) s

/-- `JMP a16` (R201). -/
def execJmp (a16 : Word) (s : State) : Result := .next (s.setPc a16)

/-- `JNZ a16` (R202). -/
def execJnz (a16 : Word) (s : State) : Result := jumpIf .nz a16 s

/-- `JZ a16` (R202). -/
def execJz (a16 : Word) (s : State) : Result := jumpIf .z a16 s

/-- `JNC a16` (R202). -/
def execJnc (a16 : Word) (s : State) : Result := jumpIf .nc a16 s

/-- `JC a16` (R202). -/
def execJc (a16 : Word) (s : State) : Result := jumpIf .c a16 s

/-- `JPO a16` (R202). -/
def execJpo (a16 : Word) (s : State) : Result := jumpIf .po a16 s

/-- `JPE a16` (R202). -/
def execJpe (a16 : Word) (s : State) : Result := jumpIf .pe a16 s

/-- `JP a16` (R202). -/
def execJp (a16 : Word) (s : State) : Result := jumpIf .p a16 s

/-- `JM a16` (R202). -/
def execJm (a16 : Word) (s : State) : Result := jumpIf .m a16 s

/-- `PCHL` (R207). -/
def execPchl (s : State) : Result := .next (s.setPc s.hl)

/-- `CALL a16` (R203). -/
def execCall (a16 : Word) (s : State) : Result := callTo (s.pc + 3) a16 s

/-- `CNZ a16` (R204). -/
def execCnz (a16 : Word) (s : State) : Result := callIf .nz a16 s

/-- `CZ a16` (R204). -/
def execCz (a16 : Word) (s : State) : Result := callIf .z a16 s

/-- `CNC a16` (R204). -/
def execCnc (a16 : Word) (s : State) : Result := callIf .nc a16 s

/-- `CC a16` (R204). -/
def execCc (a16 : Word) (s : State) : Result := callIf .c a16 s

/-- `CPO a16` (R204). -/
def execCpo (a16 : Word) (s : State) : Result := callIf .po a16 s

/-- `CPE a16` (R204). -/
def execCpe (a16 : Word) (s : State) : Result := callIf .pe a16 s

/-- `CP a16` (R204). -/
def execCp (a16 : Word) (s : State) : Result := callIf .p a16 s

/-- `CM a16` (R204). -/
def execCm (a16 : Word) (s : State) : Result := callIf .m a16 s

/-- `RST 0` (R208). -/
def execRst0 (s : State) : Result := rstOp 0 s

/-- `RST 1` (R208). -/
def execRst1 (s : State) : Result := rstOp 1 s

/-- `RST 2` (R208). -/
def execRst2 (s : State) : Result := rstOp 2 s

/-- `RST 3` (R208). -/
def execRst3 (s : State) : Result := rstOp 3 s

/-- `RST 4` (R208). -/
def execRst4 (s : State) : Result := rstOp 4 s

/-- `RST 5` (R208). -/
def execRst5 (s : State) : Result := rstOp 5 s

/-- `RST 6` (R208). -/
def execRst6 (s : State) : Result := rstOp 6 s

/-- `RST 7` (R208). -/
def execRst7 (s : State) : Result := rstOp 7 s

/-- `RET` (R205). -/
def execRet (s : State) : Result := .next (returnToTop s)

/-- `RNZ` (R206). -/
def execRnz (s : State) : Result := returnIf .nz s

/-- `RZ` (R206). -/
def execRz (s : State) : Result := returnIf .z s

/-- `RNC` (R206). -/
def execRnc (s : State) : Result := returnIf .nc s

/-- `RC` (R206). -/
def execRc (s : State) : Result := returnIf .c s

/-- `RPO` (R206). -/
def execRpo (s : State) : Result := returnIf .po s

/-- `RPE` (R206). -/
def execRpe (s : State) : Result := returnIf .pe s

/-- `RP` (R206). -/
def execRp (s : State) : Result := returnIf .p s

/-- `RM` (R206). -/
def execRm (s : State) : Result := returnIf .m s

end Sys2Proof.Machine
end

