-- ==== Sys2Proof/Machine/Control.lean ====
section
/-! DEFINITION. Interrupt control, halt and no operation (spec/46_machine_control.md R240 to R244). -/

namespace Sys2Proof.Machine

/-- `EI` (R240). -/
def execEi (s : State) : Result := finish 1 (s.setPend true)

/-- `DI` (R241). -/
def execDi (s : State) : Result := finish 1 (s.setIe false)

/-- `HLT` (R242). -/
def execHlt (s : State) : Result := .next (s.setHalt true)

/-- `NOP` (R244). -/
def execNop (s : State) : Result := finish 1 s

end Sys2Proof.Machine
end

