-- ==== Sys2Proof/Machine/DataTransfer.lean ====
section
/-! DEFINITION. Data-transfer instructions (spec/40_data_transfer.md R110 to R121). None writes a flag (R110). -/

namespace Sys2Proof.Machine

/-- `MOV d,s` (R111): the source is read, and `HL` taken, before anything is written. -/
def movOp (dst src : Sel) (s : State) : Result := andThen (wrOp dst (rdOp src s) s) (finish 1)

/-- `MVI d,d8` (R112). -/
def mviOp (dst : Sel) (d8 : Byte) (s : State) : Result := andThen (wrOp dst d8 s) (finish 2)

/-- `LXI rp,d16` (R113). -/
def lxiOp (p : Pair) (d16 : Word) (s : State) : Result := finish 3 (wrPair p d16 s)

/-- `LDAX` from the address in a pair (R119). -/
def ldaxOp (addr : Word) (s : State) : Result := finish 1 (s.setA (memRead addr s))

/-- `STAX` to the address in a pair (R120). -/
def staxOp (addr : Word) (s : State) : Result := andThen (memWrite addr s.regs.a s) (finish 1)

/-- `MOV B,B` (R111). -/
def execMovBB (s : State) : Result := movOp .b .b s

/-- `MOV B,C` (R111). -/
def execMovBC (s : State) : Result := movOp .b .c s

/-- `MOV B,D` (R111). -/
def execMovBD (s : State) : Result := movOp .b .d s

/-- `MOV B,E` (R111). -/
def execMovBE (s : State) : Result := movOp .b .e s

/-- `MOV B,H` (R111). -/
def execMovBH (s : State) : Result := movOp .b .h s

/-- `MOV B,L` (R111). -/
def execMovBL (s : State) : Result := movOp .b .l s

/-- `MOV B,M` (R111). -/
def execMovBM (s : State) : Result := movOp .b .m s

/-- `MOV B,A` (R111). -/
def execMovBA (s : State) : Result := movOp .b .a s

/-- `MOV C,B` (R111). -/
def execMovCB (s : State) : Result := movOp .c .b s

/-- `MOV C,C` (R111). -/
def execMovCC (s : State) : Result := movOp .c .c s

/-- `MOV C,D` (R111). -/
def execMovCD (s : State) : Result := movOp .c .d s

/-- `MOV C,E` (R111). -/
def execMovCE (s : State) : Result := movOp .c .e s

/-- `MOV C,H` (R111). -/
def execMovCH (s : State) : Result := movOp .c .h s

/-- `MOV C,L` (R111). -/
def execMovCL (s : State) : Result := movOp .c .l s

/-- `MOV C,M` (R111). -/
def execMovCM (s : State) : Result := movOp .c .m s

/-- `MOV C,A` (R111). -/
def execMovCA (s : State) : Result := movOp .c .a s

/-- `MOV D,B` (R111). -/
def execMovDB (s : State) : Result := movOp .d .b s

/-- `MOV D,C` (R111). -/
def execMovDC (s : State) : Result := movOp .d .c s

/-- `MOV D,D` (R111). -/
def execMovDD (s : State) : Result := movOp .d .d s

/-- `MOV D,E` (R111). -/
def execMovDE (s : State) : Result := movOp .d .e s

/-- `MOV D,H` (R111). -/
def execMovDH (s : State) : Result := movOp .d .h s

/-- `MOV D,L` (R111). -/
def execMovDL (s : State) : Result := movOp .d .l s

/-- `MOV D,M` (R111). -/
def execMovDM (s : State) : Result := movOp .d .m s

/-- `MOV D,A` (R111). -/
def execMovDA (s : State) : Result := movOp .d .a s

/-- `MOV E,B` (R111). -/
def execMovEB (s : State) : Result := movOp .e .b s

/-- `MOV E,C` (R111). -/
def execMovEC (s : State) : Result := movOp .e .c s

/-- `MOV E,D` (R111). -/
def execMovED (s : State) : Result := movOp .e .d s

/-- `MOV E,E` (R111). -/
def execMovEE (s : State) : Result := movOp .e .e s

/-- `MOV E,H` (R111). -/
def execMovEH (s : State) : Result := movOp .e .h s

/-- `MOV E,L` (R111). -/
def execMovEL (s : State) : Result := movOp .e .l s

/-- `MOV E,M` (R111). -/
def execMovEM (s : State) : Result := movOp .e .m s

/-- `MOV E,A` (R111). -/
def execMovEA (s : State) : Result := movOp .e .a s

/-- `MOV H,B` (R111). -/
def execMovHB (s : State) : Result := movOp .h .b s

/-- `MOV H,C` (R111). -/
def execMovHC (s : State) : Result := movOp .h .c s

/-- `MOV H,D` (R111). -/
def execMovHD (s : State) : Result := movOp .h .d s

/-- `MOV H,E` (R111). -/
def execMovHE (s : State) : Result := movOp .h .e s

/-- `MOV H,H` (R111). -/
def execMovHH (s : State) : Result := movOp .h .h s

/-- `MOV H,L` (R111). -/
def execMovHL (s : State) : Result := movOp .h .l s

/-- `MOV H,M` (R111). -/
def execMovHM (s : State) : Result := movOp .h .m s

/-- `MOV H,A` (R111). -/
def execMovHA (s : State) : Result := movOp .h .a s

/-- `MOV L,B` (R111). -/
def execMovLB (s : State) : Result := movOp .l .b s

/-- `MOV L,C` (R111). -/
def execMovLC (s : State) : Result := movOp .l .c s

/-- `MOV L,D` (R111). -/
def execMovLD (s : State) : Result := movOp .l .d s

/-- `MOV L,E` (R111). -/
def execMovLE (s : State) : Result := movOp .l .e s

/-- `MOV L,H` (R111). -/
def execMovLH (s : State) : Result := movOp .l .h s

/-- `MOV L,L` (R111). -/
def execMovLL (s : State) : Result := movOp .l .l s

/-- `MOV L,M` (R111). -/
def execMovLM (s : State) : Result := movOp .l .m s

/-- `MOV L,A` (R111). -/
def execMovLA (s : State) : Result := movOp .l .a s

/-- `MOV M,B` (R111). -/
def execMovMB (s : State) : Result := movOp .m .b s

/-- `MOV M,C` (R111). -/
def execMovMC (s : State) : Result := movOp .m .c s

/-- `MOV M,D` (R111). -/
def execMovMD (s : State) : Result := movOp .m .d s

/-- `MOV M,E` (R111). -/
def execMovME (s : State) : Result := movOp .m .e s

/-- `MOV M,H` (R111). -/
def execMovMH (s : State) : Result := movOp .m .h s

/-- `MOV M,L` (R111). -/
def execMovML (s : State) : Result := movOp .m .l s

/-- `MOV M,A` (R111). -/
def execMovMA (s : State) : Result := movOp .m .a s

/-- `MOV A,B` (R111). -/
def execMovAB (s : State) : Result := movOp .a .b s

/-- `MOV A,C` (R111). -/
def execMovAC (s : State) : Result := movOp .a .c s

/-- `MOV A,D` (R111). -/
def execMovAD (s : State) : Result := movOp .a .d s

/-- `MOV A,E` (R111). -/
def execMovAE (s : State) : Result := movOp .a .e s

/-- `MOV A,H` (R111). -/
def execMovAH (s : State) : Result := movOp .a .h s

/-- `MOV A,L` (R111). -/
def execMovAL (s : State) : Result := movOp .a .l s

/-- `MOV A,M` (R111). -/
def execMovAM (s : State) : Result := movOp .a .m s

/-- `MOV A,A` (R111). -/
def execMovAA (s : State) : Result := movOp .a .a s

/-- `MVI B,d8` (R112). -/
def execMviB (d8 : Byte) (s : State) : Result := mviOp .b d8 s

/-- `MVI C,d8` (R112). -/
def execMviC (d8 : Byte) (s : State) : Result := mviOp .c d8 s

/-- `MVI D,d8` (R112). -/
def execMviD (d8 : Byte) (s : State) : Result := mviOp .d d8 s

/-- `MVI E,d8` (R112). -/
def execMviE (d8 : Byte) (s : State) : Result := mviOp .e d8 s

/-- `MVI H,d8` (R112). -/
def execMviH (d8 : Byte) (s : State) : Result := mviOp .h d8 s

/-- `MVI L,d8` (R112). -/
def execMviL (d8 : Byte) (s : State) : Result := mviOp .l d8 s

/-- `MVI M,d8` (R112). -/
def execMviM (d8 : Byte) (s : State) : Result := mviOp .m d8 s

/-- `MVI A,d8` (R112). -/
def execMviA (d8 : Byte) (s : State) : Result := mviOp .a d8 s

/-- `LXI B,d16` (R113). -/
def execLxiB (d16 : Word) (s : State) : Result := lxiOp .bc d16 s

/-- `LXI D,d16` (R113). -/
def execLxiD (d16 : Word) (s : State) : Result := lxiOp .de d16 s

/-- `LXI H,d16` (R113). -/
def execLxiH (d16 : Word) (s : State) : Result := lxiOp .hl d16 s

/-- `LXI SP,d16` (R113). -/
def execLxiSP (d16 : Word) (s : State) : Result := lxiOp .sp d16 s

/-- `LDA a16` (R114). -/
def execLda (a16 : Word) (s : State) : Result := finish 3 (s.setA (memRead a16 s))

/-- `STA a16` (R115). -/
def execSta (a16 : Word) (s : State) : Result := andThen (memWrite a16 s.regs.a s) (finish 3)

/-- `LHLD a16` (R117). -/
def execLhld (a16 : Word) (s : State) : Result := finish 3 ((s.setL (memRead a16 s)).setH (memRead (a16 + 1) s))

/-- `SHLD a16` (R118). -/
def execShld (a16 : Word) (s : State) : Result :=
  andThen (memWrite a16 s.regs.l s) fun s1 => andThen (memWrite (a16 + 1) s.regs.h s1) (finish 3)

/-- `LDAX B` (R119). -/
def execLdaxB (s : State) : Result := ldaxOp s.bc s

/-- `LDAX D` (R119). -/
def execLdaxD (s : State) : Result := ldaxOp s.de s

/-- `STAX B` (R120). -/
def execStaxB (s : State) : Result := staxOp s.bc s

/-- `STAX D` (R120). -/
def execStaxD (s : State) : Result := staxOp s.de s

/-- `XCHG` (R121). -/
def execXchg (s : State) : Result := finish 1 ((s.setHl s.de).setDe s.hl)

end Sys2Proof.Machine
end

