-- ==== Sys2Proof/Machine/Illegal.lean ====
section
/-! DEFINITION. The twelve illegal opcode values (spec/30_encoding.md R92): each raises IllegalOpcode (spec/60_exceptions.md R260). -/

namespace Sys2Proof.Machine

/-- `raise IllegalOpcode(pc0, op)` (60_exceptions.md R260): nothing has been written, so the state left is the state given. -/
def illegalOp (op : Byte) (s : State) : Result := .fault (.illegalOpcode s.pc op s)

/-- `(illegal)` (R92). -/
def execIllegal08 (s : State) : Result := illegalOp 0x08 s

/-- `(illegal)` (R92). -/
def execIllegal10 (s : State) : Result := illegalOp 0x10 s

/-- `(illegal)` (R92). -/
def execIllegal18 (s : State) : Result := illegalOp 0x18 s

/-- `(illegal)` (R92). -/
def execIllegal20 (s : State) : Result := illegalOp 0x20 s

/-- `(illegal)` (R92). -/
def execIllegal28 (s : State) : Result := illegalOp 0x28 s

/-- `(illegal)` (R92). -/
def execIllegal30 (s : State) : Result := illegalOp 0x30 s

/-- `(illegal)` (R92). -/
def execIllegal38 (s : State) : Result := illegalOp 0x38 s

/-- `(illegal)` (R92). -/
def execIllegalCB (s : State) : Result := illegalOp 0xCB s

/-- `(illegal)` (R92). -/
def execIllegalD9 (s : State) : Result := illegalOp 0xD9 s

/-- `(illegal)` (R92). -/
def execIllegalDD (s : State) : Result := illegalOp 0xDD s

/-- `(illegal)` (R92). -/
def execIllegalED (s : State) : Result := illegalOp 0xED s

/-- `(illegal)` (R92). -/
def execIllegalFD (s : State) : Result := illegalOp 0xFD s

end Sys2Proof.Machine
end

