-- ==== Sys2Proof/Machine/Io.lean ====
section
/-! DEFINITION. The IOBus and the I/O instructions (spec/45_io_shift_register.md R220 to R231). -/

namespace Sys2Proof.Machine

/-- Read of port 3 (R227): the window of the shift register, shifted right by `8 - OFF`, low byte. -/
def shiftWindow (io : IoBus) : Byte := ((wordOf io.shh io.shl) >>> (8 - io.off.toNat)).setWidth 8

/-- `IORead(p)` (R222, R228): no side effect; a port with no device reads 0x00 (R229). -/
def ioRead (port : Byte) (io : IoBus) : Byte :=
  if port = 1 then io.in1
  else if port = 2 then io.in2
  else if port = 3 then shiftWindow io
  else 0x00

/-- `IOWrite(p, v)` (R223, R228): port 2 sets the offset (R224), port 4 loads the shift register (R225), nothing else. -/
def ioWrite (port v : Byte) (io : IoBus) : IoBus :=
  if port = 2 then { io with off := v.extractLsb' 0 3 }
  else if port = 4 then { io with shl := io.shh, shh := v }
  else io

/-- `IN d8` (R220). -/
def execInp (d8 : Byte) (s : State) : Result := finish 2 (s.setA (ioRead d8 s.io))

/-- `OUT d8` (R221). -/
def execOut (d8 : Byte) (s : State) : Result := finish 2 (s.setIo (ioWrite d8 s.regs.a s.io))

end Sys2Proof.Machine
end

