-- ==== Sys2Proof/Machine/Logical.lean ====
section
/-! DEFINITION. Logical, compare, rotate and accumulator/carry instructions (spec/42_logical_rotate.md R160 to R176). -/

namespace Sys2Proof.Machine

/-- `A <- f(A, b)` for one of the three logical functions, all five flags (R160 to R166). -/
def aluLogic (f : Byte → Byte → Byte × Flags) (b : Byte) (len : Nat) (s : State) : Result :=
  finish len ((s.setA (f s.regs.a b).1).setFlags (f s.regs.a b).2)

/-- `discard Sub8(A, b, 0)` (R167, R168): the flags of the subtraction, `A` unchanged. -/
def aluCompare (b : Byte) (len : Nat) (s : State) : Result := finish len (s.setFlags (sub8 s.regs.a b false).2)

/-- A rotate's result byte and Carry (R170 to R173); no other flag. -/
def rotateOp (r : Byte × Bool) (s : State) : Result := finish 1 ((s.setA r.1).setFlags { s.flags with cy := r.2 })

/-- `ANA B` (R161). -/
def execAnaB (s : State) : Result := aluLogic and8 (rdOp .b s) 1 s

/-- `ANA C` (R161). -/
def execAnaC (s : State) : Result := aluLogic and8 (rdOp .c s) 1 s

/-- `ANA D` (R161). -/
def execAnaD (s : State) : Result := aluLogic and8 (rdOp .d s) 1 s

/-- `ANA E` (R161). -/
def execAnaE (s : State) : Result := aluLogic and8 (rdOp .e s) 1 s

/-- `ANA H` (R161). -/
def execAnaH (s : State) : Result := aluLogic and8 (rdOp .h s) 1 s

/-- `ANA L` (R161). -/
def execAnaL (s : State) : Result := aluLogic and8 (rdOp .l s) 1 s

/-- `ANA M` (R161). -/
def execAnaM (s : State) : Result := aluLogic and8 (rdOp .m s) 1 s

/-- `ANA A` (R161). -/
def execAnaA (s : State) : Result := aluLogic and8 (rdOp .a s) 1 s

/-- `XRA B` (R163). -/
def execXraB (s : State) : Result := aluLogic xor8 (rdOp .b s) 1 s

/-- `XRA C` (R163). -/
def execXraC (s : State) : Result := aluLogic xor8 (rdOp .c s) 1 s

/-- `XRA D` (R163). -/
def execXraD (s : State) : Result := aluLogic xor8 (rdOp .d s) 1 s

/-- `XRA E` (R163). -/
def execXraE (s : State) : Result := aluLogic xor8 (rdOp .e s) 1 s

/-- `XRA H` (R163). -/
def execXraH (s : State) : Result := aluLogic xor8 (rdOp .h s) 1 s

/-- `XRA L` (R163). -/
def execXraL (s : State) : Result := aluLogic xor8 (rdOp .l s) 1 s

/-- `XRA M` (R163). -/
def execXraM (s : State) : Result := aluLogic xor8 (rdOp .m s) 1 s

/-- `XRA A` (R163). -/
def execXraA (s : State) : Result := aluLogic xor8 (rdOp .a s) 1 s

/-- `ORA B` (R165). -/
def execOraB (s : State) : Result := aluLogic or8 (rdOp .b s) 1 s

/-- `ORA C` (R165). -/
def execOraC (s : State) : Result := aluLogic or8 (rdOp .c s) 1 s

/-- `ORA D` (R165). -/
def execOraD (s : State) : Result := aluLogic or8 (rdOp .d s) 1 s

/-- `ORA E` (R165). -/
def execOraE (s : State) : Result := aluLogic or8 (rdOp .e s) 1 s

/-- `ORA H` (R165). -/
def execOraH (s : State) : Result := aluLogic or8 (rdOp .h s) 1 s

/-- `ORA L` (R165). -/
def execOraL (s : State) : Result := aluLogic or8 (rdOp .l s) 1 s

/-- `ORA M` (R165). -/
def execOraM (s : State) : Result := aluLogic or8 (rdOp .m s) 1 s

/-- `ORA A` (R165). -/
def execOraA (s : State) : Result := aluLogic or8 (rdOp .a s) 1 s

/-- `CMP B` (R167). -/
def execCmpB (s : State) : Result := aluCompare (rdOp .b s) 1 s

/-- `CMP C` (R167). -/
def execCmpC (s : State) : Result := aluCompare (rdOp .c s) 1 s

/-- `CMP D` (R167). -/
def execCmpD (s : State) : Result := aluCompare (rdOp .d s) 1 s

/-- `CMP E` (R167). -/
def execCmpE (s : State) : Result := aluCompare (rdOp .e s) 1 s

/-- `CMP H` (R167). -/
def execCmpH (s : State) : Result := aluCompare (rdOp .h s) 1 s

/-- `CMP L` (R167). -/
def execCmpL (s : State) : Result := aluCompare (rdOp .l s) 1 s

/-- `CMP M` (R167). -/
def execCmpM (s : State) : Result := aluCompare (rdOp .m s) 1 s

/-- `CMP A` (R167). -/
def execCmpA (s : State) : Result := aluCompare (rdOp .a s) 1 s

/-- `ANI d8` (R162). -/
def execAni (d8 : Byte) (s : State) : Result := aluLogic and8 d8 2 s

/-- `XRI d8` (R164). -/
def execXri (d8 : Byte) (s : State) : Result := aluLogic xor8 d8 2 s

/-- `ORI d8` (R166). -/
def execOri (d8 : Byte) (s : State) : Result := aluLogic or8 d8 2 s

/-- `CPI d8` (R168). -/
def execCpi (d8 : Byte) (s : State) : Result := aluCompare d8 2 s

/-- `RLC` (R170). -/
def execRlc (s : State) : Result := rotateOp (rotLeft s.regs.a) s

/-- `RRC` (R171). -/
def execRrc (s : State) : Result := rotateOp (rotRight s.regs.a) s

/-- `RAL` (R172). -/
def execRal (s : State) : Result := rotateOp (rotLeftCarry s.regs.a s.flags.cy) s

/-- `RAR` (R173). -/
def execRar (s : State) : Result := rotateOp (rotRightCarry s.regs.a s.flags.cy) s

/-- `CMA` (R174). -/
def execCma (s : State) : Result := finish 1 (s.setA (~~~s.regs.a))

/-- `STC` (R175). -/
def execStc (s : State) : Result := finish 1 (s.setFlags { s.flags with cy := true })

/-- `CMC` (R176). -/
def execCmc (s : State) : Result := finish 1 (s.setFlags { s.flags with cy := !s.flags.cy })

end Sys2Proof.Machine
end

