-- ==== Sys2Proof/Machine/Stack.lean ====
section
/-! DEFINITION. Stack instructions (spec/43_stack.md R190 to R196). -/

namespace Sys2Proof.Machine

/-- `PUSH rp` and `PUSH PSW` (R190, R191). -/
def pushOp (p : StackPair) (s : State) : Result := andThen (push16 (rdStackPair p s) s) (finish 1)

/-- `POP rp` and `POP PSW` (R192, R193). -/
def popOp (p : StackPair) (s : State) : Result := finish 1 (wrStackPair p (stackTop s) (dropTop s))

/-- `PUSH B` (R190). -/
def execPushB (s : State) : Result := pushOp .bc s

/-- `PUSH D` (R190). -/
def execPushD (s : State) : Result := pushOp .de s

/-- `PUSH H` (R190). -/
def execPushH (s : State) : Result := pushOp .hl s

/-- `PUSH PSW` (R191). -/
def execPushPSW (s : State) : Result := pushOp .psw s

/-- `POP B` (R192). -/
def execPopB (s : State) : Result := popOp .bc s

/-- `POP D` (R192). -/
def execPopD (s : State) : Result := popOp .de s

/-- `POP H` (R192). -/
def execPopH (s : State) : Result := popOp .hl s

/-- `POP PSW` (R193). -/
def execPopPSW (s : State) : Result := popOp .psw s

/-- `XTHL` (R194). -/
def execXthl (s : State) : Result :=
  andThen (memWrite s.sp s.regs.l s) fun s1 =>
    andThen (memWrite (s.sp + 1) s.regs.h s1) fun s2 =>
      finish 1 ((s2.setL (memRead s.sp s)).setH (memRead (s.sp + 1) s))

/-- `SPHL` (R195). -/
def execSphl (s : State) : Result := finish 1 (s.setSp s.hl)

end Sys2Proof.Machine
end

