-- ==== Sys2Proof/Machine/Driver.lean ====
section
/-! DEFINITION. The driver's moves between two steps (spec/60_exceptions.md R251): the interrupt request (R252 to R255), the
input event (spec/45_io_shift_register.md R230) and reset (spec/70_reset_and_hazards.md R280), and a whole step boundary. -/

namespace Sys2Proof.Machine

/-- `Interrupt(n)` (60_exceptions.md R252 to R255): refused above 7, dropped while `IE = 0`, else the entry at `8 * n`, halted
or not. -/
def interrupt (n : Nat) (s : State) : Result :=
  if 7 < n then .refused (.vectorOutOfRange n)
  else if s.ie then interruptEntry (BitVec.ofNat 16 n <<< 3) s
  else .next s

/-- Set or clear bit `bit` of a latch (45_io_shift_register.md R230). -/
def latchBit (latch : Byte) (bit : Nat) (pressed : Bool) : Byte :=
  if pressed then latch ||| (1#8 <<< bit) else latch &&& ~~~(1#8 <<< bit)

/-- `HandleInput(port, bit, pressed)` (45_io_shift_register.md R230): one bit of one latch, nothing else; out of range refused. -/
def handleInput (port bit : Nat) (pressed : Bool) (s : State) : Result :=
  if 7 < bit then .refused (.inputOutOfRange port bit)
  else if port = 1 then .next (s.setIo { s.io with in1 := latchBit s.io.in1 bit pressed })
  else if port = 2 then .next (s.setIo { s.io with in2 := latchBit s.io.in2 bit pressed })
  else .refused (.inputOutOfRange port bit)

/-- `Reset()` (70_reset_and_hazards.md R280, R282): everything zero but memory and `Protected`; the driver's own schedule is
the driver's. -/
def driverReset (s : State) : State :=
  { State.reset with mem := s.mem, prot := s.prot, schedule := s.schedule }

/-- One move of the driver. -/
def applyEvent (ev : DriverEvent) (s : State) : Result :=
  match ev with
  | .interrupt n => interrupt n s
  | .input port bit pressed => handleInput port bit pressed s
  | .reset => .next (driverReset s)

/-- The moves of one boundary, one after another in the driver's order (60_exceptions.md R251, R258). -/
def applyEvents : List DriverEvent → State → Result
  | [], s => .next s
  | ev :: evs, s => andThen (applyEvent ev s) (applyEvents evs)

/-- The boundary before the next step: its events leave the schedule and are applied (70_reset_and_hazards.md R287). -/
def boundary (s : State) : Result :=
  match s.schedule with
  | [] => .next s
  | evs :: rest => applyEvents evs (s.setSchedule rest)

end Sys2Proof.Machine
end

