-- ==== Sys2Proof/Decode.lean ====
section
/-! DEFINITION. Decoding by the fields of the opcode byte (spec/30_encoding.md R82, R87 to R92) and encoding by the opcode grid
(R91, spec/opcode_table.json). The two are written from different tables of the spec, so that their agreement says something.
Decoding is total (R93): an illegal opcode value decodes to its own row's constructor, and only a byte list that ends before
the instruction does is rejected. -/

namespace Sys2Proof

/-- Why a list of bytes is no instruction: it ends too soon. Memory never ends (addresses wrap), so no fetch meets these. -/
inductive DecodeError where
  /-- No byte at all. -/
  | noByte
  /-- The opcode wants more operand bytes than follow it. -/
  | operandMissing (op : Byte)
  deriving DecidableEq, Repr

/-- The twelve values of `IllegalSet` (00_scope.md R5, 30_encoding.md R92). -/
def illegalSet : List Byte :=
  [0x08, 0x10, 0x18, 0x20, 0x28, 0x30, 0x38, 0xCB, 0xD9, 0xDD, 0xED, 0xFD]

/-! ## Selector fields -/

/-- The value map of `ddd` and `sss` (10_state.md R21). -/
def selOfBits (f : BitVec 3) : Sel :=
  match f.toNat with
  | 0 => .b
  | 1 => .c
  | 2 => .d
  | 3 => .e
  | 4 => .h
  | 5 => .l
  | 6 => .m
  | _ => .a

/-- The value map of `rp` outside `PUSH` and `POP` (10_state.md R23). -/
def pairOfBits (f : BitVec 2) : Pair :=
  match f.toNat with
  | 0 => .bc
  | 1 => .de
  | 2 => .hl
  | _ => .sp

/-- The value map of `rp` in `PUSH` and `POP` (10_state.md R24). -/
def stackPairOfBits (f : BitVec 2) : StackPair :=
  match f.toNat with
  | 0 => .bc
  | 1 => .de
  | 2 => .hl
  | _ => .psw

/-- The value map of `ooo` (30_encoding.md R89). -/
def aluOpOfBits (f : BitVec 3) : AluOp :=
  match f.toNat with
  | 0 => .add
  | 1 => .adc
  | 2 => .sub
  | 3 => .sbb
  | 4 => .ana
  | 5 => .xra
  | 6 => .ora
  | _ => .cmp

/-- The value map of `ccc` (44_branch.md R200). -/
def condOfBits (f : BitVec 3) : Cond :=
  match f.toNat with
  | 0 => .nz
  | 1 => .z
  | 2 => .nc
  | 3 => .c
  | 4 => .po
  | 5 => .pe
  | 6 => .p
  | _ => .m

/-! ## The instruction of each pattern -/

/-- `MOV d,s` (30_encoding.md R88); the pair `m`, `m` is `HLT`. -/
def movInstr : Sel → Sel → Instr
  | .b, .b => .movBB | .b, .c => .movBC | .b, .d => .movBD | .b, .e => .movBE
  | .b, .h => .movBH | .b, .l => .movBL | .b, .m => .movBM | .b, .a => .movBA
  | .c, .b => .movCB | .c, .c => .movCC | .c, .d => .movCD | .c, .e => .movCE
  | .c, .h => .movCH | .c, .l => .movCL | .c, .m => .movCM | .c, .a => .movCA
  | .d, .b => .movDB | .d, .c => .movDC | .d, .d => .movDD | .d, .e => .movDE
  | .d, .h => .movDH | .d, .l => .movDL | .d, .m => .movDM | .d, .a => .movDA
  | .e, .b => .movEB | .e, .c => .movEC | .e, .d => .movED | .e, .e => .movEE
  | .e, .h => .movEH | .e, .l => .movEL | .e, .m => .movEM | .e, .a => .movEA
  | .h, .b => .movHB | .h, .c => .movHC | .h, .d => .movHD | .h, .e => .movHE
  | .h, .h => .movHH | .h, .l => .movHL | .h, .m => .movHM | .h, .a => .movHA
  | .l, .b => .movLB | .l, .c => .movLC | .l, .d => .movLD | .l, .e => .movLE
  | .l, .h => .movLH | .l, .l => .movLL | .l, .m => .movLM | .l, .a => .movLA
  | .m, .b => .movMB | .m, .c => .movMC | .m, .d => .movMD | .m, .e => .movME
  | .m, .h => .movMH | .m, .l => .movML | .m, .m => .hlt | .m, .a => .movMA
  | .a, .b => .movAB | .a, .c => .movAC | .a, .d => .movAD | .a, .e => .movAE
  | .a, .h => .movAH | .a, .l => .movAL | .a, .m => .movAM | .a, .a => .movAA

/-- The register form of the accumulator group (30_encoding.md R89). -/
def aluInstr : AluOp → Sel → Instr
  | .add, .b => .addB | .add, .c => .addC | .add, .d => .addD | .add, .e => .addE
  | .add, .h => .addH | .add, .l => .addL | .add, .m => .addM | .add, .a => .addA
  | .adc, .b => .adcB | .adc, .c => .adcC | .adc, .d => .adcD | .adc, .e => .adcE
  | .adc, .h => .adcH | .adc, .l => .adcL | .adc, .m => .adcM | .adc, .a => .adcA
  | .sub, .b => .subB | .sub, .c => .subC | .sub, .d => .subD | .sub, .e => .subE
  | .sub, .h => .subH | .sub, .l => .subL | .sub, .m => .subM | .sub, .a => .subA
  | .sbb, .b => .sbbB | .sbb, .c => .sbbC | .sbb, .d => .sbbD | .sbb, .e => .sbbE
  | .sbb, .h => .sbbH | .sbb, .l => .sbbL | .sbb, .m => .sbbM | .sbb, .a => .sbbA
  | .ana, .b => .anaB | .ana, .c => .anaC | .ana, .d => .anaD | .ana, .e => .anaE
  | .ana, .h => .anaH | .ana, .l => .anaL | .ana, .m => .anaM | .ana, .a => .anaA
  | .xra, .b => .xraB | .xra, .c => .xraC | .xra, .d => .xraD | .xra, .e => .xraE
  | .xra, .h => .xraH | .xra, .l => .xraL | .xra, .m => .xraM | .xra, .a => .xraA
  | .ora, .b => .oraB | .ora, .c => .oraC | .ora, .d => .oraD | .ora, .e => .oraE
  | .ora, .h => .oraH | .ora, .l => .oraL | .ora, .m => .oraM | .ora, .a => .oraA
  | .cmp, .b => .cmpB | .cmp, .c => .cmpC | .cmp, .d => .cmpD | .cmp, .e => .cmpE
  | .cmp, .h => .cmpH | .cmp, .l => .cmpL | .cmp, .m => .cmpM | .cmp, .a => .cmpA

/-- The immediate form of the accumulator group (30_encoding.md R89). -/
def aluImmInstr : AluOp → Byte → Instr
  | .add => .adi
  | .adc => .aci
  | .sub => .sui
  | .sbb => .sbi
  | .ana => .ani
  | .xra => .xri
  | .ora => .ori
  | .cmp => .cpi

/-- `MVI d,d8` (30_encoding.md R87). -/
def mviInstr : Sel → Byte → Instr
  | .b => .mviB
  | .c => .mviC
  | .d => .mviD
  | .e => .mviE
  | .h => .mviH
  | .l => .mviL
  | .m => .mviM
  | .a => .mviA

/-- `INR d` (30_encoding.md R87). -/
def inrInstr : Sel → Instr
  | .b => .inrB
  | .c => .inrC
  | .d => .inrD
  | .e => .inrE
  | .h => .inrH
  | .l => .inrL
  | .m => .inrM
  | .a => .inrA

/-- `DCR d` (30_encoding.md R87). -/
def dcrInstr : Sel → Instr
  | .b => .dcrB
  | .c => .dcrC
  | .d => .dcrD
  | .e => .dcrE
  | .h => .dcrH
  | .l => .dcrL
  | .m => .dcrM
  | .a => .dcrA

/-- `LXI rp,d16` (30_encoding.md R87). -/
def lxiInstr : Pair → Word → Instr
  | .bc => .lxiB
  | .de => .lxiD
  | .hl => .lxiH
  | .sp => .lxiSP

/-- `INX rp` (30_encoding.md R87). -/
def inxInstr : Pair → Instr
  | .bc => .inxB
  | .de => .inxD
  | .hl => .inxH
  | .sp => .inxSP

/-- `DCX rp` (30_encoding.md R87). -/
def dcxInstr : Pair → Instr
  | .bc => .dcxB
  | .de => .dcxD
  | .hl => .dcxH
  | .sp => .dcxSP

/-- `DAD rp` (30_encoding.md R87). -/
def dadInstr : Pair → Instr
  | .bc => .dadB
  | .de => .dadD
  | .hl => .dadH
  | .sp => .dadSP

/-- `PUSH rp` and `PUSH PSW` (30_encoding.md R90). -/
def pushInstr : StackPair → Instr
  | .bc => .pushB
  | .de => .pushD
  | .hl => .pushH
  | .psw => .pushPSW

/-- `POP rp` and `POP PSW` (30_encoding.md R90). -/
def popInstr : StackPair → Instr
  | .bc => .popB
  | .de => .popD
  | .hl => .popH
  | .psw => .popPSW

/-- `Jcc a16` (30_encoding.md R90). -/
def jccInstr : Cond → Word → Instr
  | .nz => .jnz
  | .z => .jz
  | .nc => .jnc
  | .c => .jc
  | .po => .jpo
  | .pe => .jpe
  | .p => .jp
  | .m => .jm

/-- `Ccc a16` (30_encoding.md R90). -/
def cccInstr : Cond → Word → Instr
  | .nz => .cnz
  | .z => .cz
  | .nc => .cnc
  | .c => .cc
  | .po => .cpo
  | .pe => .cpe
  | .p => .cp
  | .m => .cm

/-- `Rcc` (30_encoding.md R90). -/
def rccInstr : Cond → Instr
  | .nz => .rnz
  | .z => .rz
  | .nc => .rnc
  | .c => .rc
  | .po => .rpo
  | .pe => .rpe
  | .p => .rp
  | .m => .rm

/-- `RST n` (30_encoding.md R90); only `n` from 0 to 7 is in its 3-bit field. -/
def rstInstr (n : BitVec 3) : Instr :=
  match n.toNat with
  | 0 => .rst0
  | 1 => .rst1
  | 2 => .rst2
  | 3 => .rst3
  | 4 => .rst4
  | 5 => .rst5
  | 6 => .rst6
  | _ => .rst7

/-! ## The decoder -/

/-- A decoded opcode byte, by its format (30_encoding.md R81): it is the instruction (F1), or it waits for one operand byte
(F2) or for a 16-bit operand (F3). -/
inductive Form where
  | f1 (i : Instr)
  | f2 (k : Byte → Instr)
  | f3 (k : Word → Instr)

/-- Bits 5:3 of an opcode (`ddd`, `ooo`, `ccc`, `nnn`: 30_encoding.md R82). -/
def midField (op : Byte) : BitVec 3 := op.extractLsb' 3 3

/-- Bits 2:0 of an opcode (`sss`: 30_encoding.md R82). -/
def lowField (op : Byte) : BitVec 3 := op.extractLsb' 0 3

/-- Bits 5:4 of an opcode (`rp`: 30_encoding.md R82). -/
def rpField (op : Byte) : BitVec 2 := op.extractLsb' 4 2

/-- Bits 7:6 of an opcode (`grp`: 30_encoding.md R82). -/
def grpField (op : Byte) : BitVec 2 := op.extractLsb' 6 2

/-- `00xxx000`: `NOP` and seven illegal values (30_encoding.md R87). -/
def group00Low0 (op : Byte) : Instr :=
  match (midField op).toNat with
  | 0 => .nop
  | 1 => .illegal08
  | 2 => .illegal10
  | 3 => .illegal18
  | 4 => .illegal20
  | 5 => .illegal28
  | 6 => .illegal30
  | _ => .illegal38

/-- `00xxx010`: the direct and indirect loads and stores (30_encoding.md R87). -/
def group00Low2 (op : Byte) : Form :=
  match (midField op).toNat with
  | 0 => .f1 .staxB
  | 1 => .f1 .ldaxB
  | 2 => .f1 .staxD
  | 3 => .f1 .ldaxD
  | 4 => .f3 .shld
  | 5 => .f3 .lhld
  | 6 => .f3 .sta
  | _ => .f3 .lda

/-- `00xxx111`: rotates, decimal adjust, accumulator and carry (30_encoding.md R87). -/
def group00Low7 (op : Byte) : Instr :=
  match (midField op).toNat with
  | 0 => .rlc
  | 1 => .rrc
  | 2 => .ral
  | 3 => .rar
  | 4 => .daa
  | 5 => .cma
  | 6 => .stc
  | _ => .cmc

/-- Group 00 (30_encoding.md R87). -/
def group00 (op : Byte) : Form :=
  match (lowField op).toNat with
  | 0 => .f1 (group00Low0 op)
  | 1 => if op.getLsbD 3 then .f1 (dadInstr (pairOfBits (rpField op))) else .f3 (lxiInstr (pairOfBits (rpField op)))
  | 2 => group00Low2 op
  | 3 => .f1 (if op.getLsbD 3 then dcxInstr (pairOfBits (rpField op)) else inxInstr (pairOfBits (rpField op)))
  | 4 => .f1 (inrInstr (selOfBits (midField op)))
  | 5 => .f1 (dcrInstr (selOfBits (midField op)))
  | 6 => .f2 (mviInstr (selOfBits (midField op)))
  | _ => .f1 (group00Low7 op)

/-- `11xx1001`: `RET`, illegal 0xD9, `PCHL`, `SPHL` (30_encoding.md R90). -/
def group11Low1 (op : Byte) : Instr :=
  match (rpField op).toNat with
  | 0 => .ret
  | 1 => .illegalD9
  | 2 => .pchl
  | _ => .sphl

/-- `11xxx011`: `JMP`, illegal 0xCB, I/O, exchanges, interrupt control (30_encoding.md R90). -/
def group11Low3 (op : Byte) : Form :=
  match (midField op).toNat with
  | 0 => .f3 .jmp
  | 1 => .f1 .illegalCB
  | 2 => .f2 .out
  | 3 => .f2 .inp
  | 4 => .f1 .xthl
  | 5 => .f1 .xchg
  | 6 => .f1 .di
  | _ => .f1 .ei

/-- `11xx1101`: `CALL` and the illegal 0xDD, 0xED, 0xFD (30_encoding.md R90). -/
def group11Low5 (op : Byte) : Form :=
  match (rpField op).toNat with
  | 0 => .f3 .call
  | 1 => .f1 .illegalDD
  | 2 => .f1 .illegalED
  | _ => .f1 .illegalFD

/-- Group 11 (30_encoding.md R90). -/
def group11 (op : Byte) : Form :=
  match (lowField op).toNat with
  | 0 => .f1 (rccInstr (condOfBits (midField op)))
  | 1 => .f1 (if op.getLsbD 3 then group11Low1 op else popInstr (stackPairOfBits (rpField op)))
  | 2 => .f3 (jccInstr (condOfBits (midField op)))
  | 3 => group11Low3 op
  | 4 => .f3 (cccInstr (condOfBits (midField op)))
  | 5 => if op.getLsbD 3 then group11Low5 op else .f1 (pushInstr (stackPairOfBits (rpField op)))
  | 6 => .f2 (aluImmInstr (aluOpOfBits (midField op)))
  | _ => .f1 (rstInstr (midField op))

/-- The table look-up of one opcode byte (30_encoding.md R80, R87 to R90): total. -/
def decodeOpcode (op : Byte) : Form :=
  match (grpField op).toNat with
  | 0 => group00 op
  | 1 => .f1 (movInstr (selOfBits (midField op)) (selOfBits (lowField op)))
  | 2 => .f1 (aluInstr (aluOpOfBits (midField op)) (selOfBits (lowField op)))
  | _ => group11 op

/-- Decode the first instruction of a list of bytes and give the bytes after it; operands low byte first (30_encoding.md R84,
R85). -/
def decode (bytes : List Byte) : Except DecodeError (Instr × List Byte) :=
  match bytes with
  | [] => .error .noByte
  | op :: rest =>
    match decodeOpcode op, rest with
    | .f1 i, rest => .ok (i, rest)
    | .f2 k, d8 :: rest => .ok (k d8, rest)
    | .f3 k, lo :: hi :: rest => .ok (k (wordOf hi lo), rest)
    | _, _ => .error (.operandMissing op)

/-- Decode one instruction out of the three bytes a fetch reads. An instruction is at most three bytes long, so nothing is
ever missing (30_encoding.md R80, R81). -/
def decode3 (b1 b2 b3 : Byte) : Instr :=
  match decodeOpcode b1 with
  | .f1 i => i
  | .f2 k => k b2
  | .f3 k => k (wordOf b3 b2)

/-- Length in bytes as a function of the opcode byte alone (30_encoding.md R80, R81); 1 for an illegal value, which has none
(R92): it is the one byte the fetch reads. -/
def lengthOf (op : Byte) : Nat :=
  match decodeOpcode op with
  | .f1 _ => 1
  | .f2 _ => 2
  | .f3 _ => 3

/-! ## The encoder -/

/-- The bytes of an instruction, from the opcode grid 30_encoding.md R91. -/
def encode (i : Instr) : List Byte :=
  match i with
  | .nop => [0x00]
  | .lxiB d16 => [0x01, loByte d16, hiByte d16]
  | .staxB => [0x02]
  | .inxB => [0x03]
  | .inrB => [0x04]
  | .dcrB => [0x05]
  | .mviB d8 => [0x06, d8]
  | .rlc => [0x07]
  | .illegal08 => [0x08]
  | .dadB => [0x09]
  | .ldaxB => [0x0A]
  | .dcxB => [0x0B]
  | .inrC => [0x0C]
  | .dcrC => [0x0D]
  | .mviC d8 => [0x0E, d8]
  | .rrc => [0x0F]
  | .illegal10 => [0x10]
  | .lxiD d16 => [0x11, loByte d16, hiByte d16]
  | .staxD => [0x12]
  | .inxD => [0x13]
  | .inrD => [0x14]
  | .dcrD => [0x15]
  | .mviD d8 => [0x16, d8]
  | .ral => [0x17]
  | .illegal18 => [0x18]
  | .dadD => [0x19]
  | .ldaxD => [0x1A]
  | .dcxD => [0x1B]
  | .inrE => [0x1C]
  | .dcrE => [0x1D]
  | .mviE d8 => [0x1E, d8]
  | .rar => [0x1F]
  | .illegal20 => [0x20]
  | .lxiH d16 => [0x21, loByte d16, hiByte d16]
  | .shld a16 => [0x22, loByte a16, hiByte a16]
  | .inxH => [0x23]
  | .inrH => [0x24]
  | .dcrH => [0x25]
  | .mviH d8 => [0x26, d8]
  | .daa => [0x27]
  | .illegal28 => [0x28]
  | .dadH => [0x29]
  | .lhld a16 => [0x2A, loByte a16, hiByte a16]
  | .dcxH => [0x2B]
  | .inrL => [0x2C]
  | .dcrL => [0x2D]
  | .mviL d8 => [0x2E, d8]
  | .cma => [0x2F]
  | .illegal30 => [0x30]
  | .lxiSP d16 => [0x31, loByte d16, hiByte d16]
  | .sta a16 => [0x32, loByte a16, hiByte a16]
  | .inxSP => [0x33]
  | .inrM => [0x34]
  | .dcrM => [0x35]
  | .mviM d8 => [0x36, d8]
  | .stc => [0x37]
  | .illegal38 => [0x38]
  | .dadSP => [0x39]
  | .lda a16 => [0x3A, loByte a16, hiByte a16]
  | .dcxSP => [0x3B]
  | .inrA => [0x3C]
  | .dcrA => [0x3D]
  | .mviA d8 => [0x3E, d8]
  | .cmc => [0x3F]
  | .movBB => [0x40]
  | .movBC => [0x41]
  | .movBD => [0x42]
  | .movBE => [0x43]
  | .movBH => [0x44]
  | .movBL => [0x45]
  | .movBM => [0x46]
  | .movBA => [0x47]
  | .movCB => [0x48]
  | .movCC => [0x49]
  | .movCD => [0x4A]
  | .movCE => [0x4B]
  | .movCH => [0x4C]
  | .movCL => [0x4D]
  | .movCM => [0x4E]
  | .movCA => [0x4F]
  | .movDB => [0x50]
  | .movDC => [0x51]
  | .movDD => [0x52]
  | .movDE => [0x53]
  | .movDH => [0x54]
  | .movDL => [0x55]
  | .movDM => [0x56]
  | .movDA => [0x57]
  | .movEB => [0x58]
  | .movEC => [0x59]
  | .movED => [0x5A]
  | .movEE => [0x5B]
  | .movEH => [0x5C]
  | .movEL => [0x5D]
  | .movEM => [0x5E]
  | .movEA => [0x5F]
  | .movHB => [0x60]
  | .movHC => [0x61]
  | .movHD => [0x62]
  | .movHE => [0x63]
  | .movHH => [0x64]
  | .movHL => [0x65]
  | .movHM => [0x66]
  | .movHA => [0x67]
  | .movLB => [0x68]
  | .movLC => [0x69]
  | .movLD => [0x6A]
  | .movLE => [0x6B]
  | .movLH => [0x6C]
  | .movLL => [0x6D]
  | .movLM => [0x6E]
  | .movLA => [0x6F]
  | .movMB => [0x70]
  | .movMC => [0x71]
  | .movMD => [0x72]
  | .movME => [0x73]
  | .movMH => [0x74]
  | .movML => [0x75]
  | .hlt => [0x76]
  | .movMA => [0x77]
  | .movAB => [0x78]
  | .movAC => [0x79]
  | .movAD => [0x7A]
  | .movAE => [0x7B]
  | .movAH => [0x7C]
  | .movAL => [0x7D]
  | .movAM => [0x7E]
  | .movAA => [0x7F]
  | .addB => [0x80]
  | .addC => [0x81]
  | .addD => [0x82]
  | .addE => [0x83]
  | .addH => [0x84]
  | .addL => [0x85]
  | .addM => [0x86]
  | .addA => [0x87]
  | .adcB => [0x88]
  | .adcC => [0x89]
  | .adcD => [0x8A]
  | .adcE => [0x8B]
  | .adcH => [0x8C]
  | .adcL => [0x8D]
  | .adcM => [0x8E]
  | .adcA => [0x8F]
  | .subB => [0x90]
  | .subC => [0x91]
  | .subD => [0x92]
  | .subE => [0x93]
  | .subH => [0x94]
  | .subL => [0x95]
  | .subM => [0x96]
  | .subA => [0x97]
  | .sbbB => [0x98]
  | .sbbC => [0x99]
  | .sbbD => [0x9A]
  | .sbbE => [0x9B]
  | .sbbH => [0x9C]
  | .sbbL => [0x9D]
  | .sbbM => [0x9E]
  | .sbbA => [0x9F]
  | .anaB => [0xA0]
  | .anaC => [0xA1]
  | .anaD => [0xA2]
  | .anaE => [0xA3]
  | .anaH => [0xA4]
  | .anaL => [0xA5]
  | .anaM => [0xA6]
  | .anaA => [0xA7]
  | .xraB => [0xA8]
  | .xraC => [0xA9]
  | .xraD => [0xAA]
  | .xraE => [0xAB]
  | .xraH => [0xAC]
  | .xraL => [0xAD]
  | .xraM => [0xAE]
  | .xraA => [0xAF]
  | .oraB => [0xB0]
  | .oraC => [0xB1]
  | .oraD => [0xB2]
  | .oraE => [0xB3]
  | .oraH => [0xB4]
  | .oraL => [0xB5]
  | .oraM => [0xB6]
  | .oraA => [0xB7]
  | .cmpB => [0xB8]
  | .cmpC => [0xB9]
  | .cmpD => [0xBA]
  | .cmpE => [0xBB]
  | .cmpH => [0xBC]
  | .cmpL => [0xBD]
  | .cmpM => [0xBE]
  | .cmpA => [0xBF]
  | .rnz => [0xC0]
  | .popB => [0xC1]
  | .jnz a16 => [0xC2, loByte a16, hiByte a16]
  | .jmp a16 => [0xC3, loByte a16, hiByte a16]
  | .cnz a16 => [0xC4, loByte a16, hiByte a16]
  | .pushB => [0xC5]
  | .adi d8 => [0xC6, d8]
  | .rst0 => [0xC7]
  | .rz => [0xC8]
  | .ret => [0xC9]
  | .jz a16 => [0xCA, loByte a16, hiByte a16]
  | .illegalCB => [0xCB]
  | .cz a16 => [0xCC, loByte a16, hiByte a16]
  | .call a16 => [0xCD, loByte a16, hiByte a16]
  | .aci d8 => [0xCE, d8]
  | .rst1 => [0xCF]
  | .rnc => [0xD0]
  | .popD => [0xD1]
  | .jnc a16 => [0xD2, loByte a16, hiByte a16]
  | .out d8 => [0xD3, d8]
  | .cnc a16 => [0xD4, loByte a16, hiByte a16]
  | .pushD => [0xD5]
  | .sui d8 => [0xD6, d8]
  | .rst2 => [0xD7]
  | .rc => [0xD8]
  | .illegalD9 => [0xD9]
  | .jc a16 => [0xDA, loByte a16, hiByte a16]
  | .inp d8 => [0xDB, d8]
  | .cc a16 => [0xDC, loByte a16, hiByte a16]
  | .illegalDD => [0xDD]
  | .sbi d8 => [0xDE, d8]
  | .rst3 => [0xDF]
  | .rpo => [0xE0]
  | .popH => [0xE1]
  | .jpo a16 => [0xE2, loByte a16, hiByte a16]
  | .xthl => [0xE3]
  | .cpo a16 => [0xE4, loByte a16, hiByte a16]
  | .pushH => [0xE5]
  | .ani d8 => [0xE6, d8]
  | .rst4 => [0xE7]
  | .rpe => [0xE8]
  | .pchl => [0xE9]
  | .jpe a16 => [0xEA, loByte a16, hiByte a16]
  | .xchg => [0xEB]
  | .cpe a16 => [0xEC, loByte a16, hiByte a16]
  | .illegalED => [0xED]
  | .xri d8 => [0xEE, d8]
  | .rst5 => [0xEF]
  | .rp => [0xF0]
  | .popPSW => [0xF1]
  | .jp a16 => [0xF2, loByte a16, hiByte a16]
  | .di => [0xF3]
  | .cp a16 => [0xF4, loByte a16, hiByte a16]
  | .pushPSW => [0xF5]
  | .ori d8 => [0xF6, d8]
  | .rst6 => [0xF7]
  | .rm => [0xF8]
  | .sphl => [0xF9]
  | .jm a16 => [0xFA, loByte a16, hiByte a16]
  | .ei => [0xFB]
  | .cm a16 => [0xFC, loByte a16, hiByte a16]
  | .illegalFD => [0xFD]
  | .cpi d8 => [0xFE, d8]
  | .rst7 => [0xFF]

/-- The opcode byte of an instruction: byte 1 of its encoding. -/
def opcodeOf (i : Instr) : Byte := (encode i).headD 0

/-! ## The host's table word -/

/-- Byte `k` of an instruction whose bits are `w` (bit 0 the least significant bit of the first byte). -/
def tableByte (w k : Nat) : Byte := BitVec.ofNat 8 (w >>> (8 * k))

/-- The three bytes of an instruction given as `nbits` bits `w`; the bits above `nbits` are zero. -/
def tableBytes (nbits w : Nat) : List Byte :=
  let v := w % 2 ^ nbits
  [tableByte v 0, tableByte v 1, tableByte v 2]

/-- What the decoder reads from the table word `w` of `nbits` bits. -/
def decodeTableWord (nbits w : Nat) : Option Instr :=
  match decode (tableBytes nbits w) with
  | .ok (i, _) => some i
  | .error _ => none

end Sys2Proof
end

