-- ==== Sys2Proof/Machine/Fetch.lean ====
section
/-! DEFINITION. What comes before a handler in a step (spec/60_exceptions.md R250): fetch and decode (spec/30_encoding.md R83 to
R85), the illegal-opcode test and the activation of a deferred enable; and placing an instruction where the next fetch is. -/

namespace Sys2Proof.Machine

/-- The instruction at `PC`. All its bytes are read before its handler writes anything (30_encoding.md R85). Three bytes are
read whatever the length: a read has no side effect (20_memory.md R61), log entry 7. -/
def fetch (s : State) : Instr := decode3 (memRead s.pc s) (memRead (s.pc + 1) s) (memRead (s.pc + 2) s)

/-- Step 4 of 60_exceptions.md R250: a pending enable is activated. -/
def activate (s : State) : State := if s.pend then (s.setIe true).setPend false else s

/-- The state the handler of `i` runs in (60_exceptions.md R250, steps 3 and 4): an illegal opcode is found out before the
activation, so it leaves `PEND` as it was (R260, decision D4). -/
def beforeHandler (i : Instr) (s : State) : State := if i.wellFormed then activate s else s

/-- Store bytes at ascending addresses, modulo 2^16, as a loader does (not subject to `Protected`: 20_memory.md R68). -/
def placeBytes : List Byte → Word → Memory → Memory
  | [], _, m => m
  | b :: bs, addr, m => placeBytes bs (addr + 1) (Memory.put m addr.toNat b)

/-- Make the very next step run the instruction in `bytes`: its bytes at `PC`, the core running, and, if the driver has moves
scheduled, a boundary without moves before them (log entry 8). -/
def placeInstr (bytes : List Byte) (s : State) : State :=
  { s with
    mem := placeBytes bytes s.pc s.mem
    halt := false
    schedule := if s.schedule.isEmpty then [] else [] :: s.schedule }

end Sys2Proof.Machine
end

