-- ==== Sys2Proof/Machine/CoreStep.lean ====
section
/-! DEFINITION. `Step()` (spec/60_exceptions.md R250) and a driver boundary followed by it (spec/70_reset_and_hazards.md R287). -/

namespace Sys2Proof.Machine

/-- `Step()`, the core's only move (60_exceptions.md R250). A halted step does nothing (46_machine_control.md R243). -/
def coreStep (s : State) : Result :=
  if s.halt then .next s else exec (fetch s) (beforeHandler (fetch s) s)

/-- The driver's moves at this boundary, then `Step()` (60_exceptions.md R251). A fault or refusal at the boundary ends it
(R258: the step is not taken). -/
def boundaryThenStep (s : State) : Result := andThen (boundary s) coreStep

end Sys2Proof.Machine
end

