-- ==== Sys2Proof/Machine/Step.lean ====
section
/-! DEFINITION. The machine's one step, and an instruction placed where the next fetch is. -/

namespace Sys2Proof.Machine

/-- One step: the driver's moves at the boundary before it, then `Step()` (60_exceptions.md R250, R251). -/
def step (s : State) : Host.Outcome State Fault Refusal := Sys2Proof.Machine.boundaryThenStep s

/-- `s` with the instruction of `nbits` bits `w` where the next step fetches (log entry 8). -/
def State.withFetchWord (s : State) (nbits w : Nat) : State :=
  Sys2Proof.Machine.placeInstr (Sys2Proof.tableBytes nbits w) s

end Sys2Proof.Machine
end

