-- ==== Sys2Proof/Machine/Cycles.lean ====
section
/-! DEFINITION. The cycle count a step returns (spec/70_reset_and_hazards.md R290): TIMING ONLY. No rule, no state and no other
definition of the model depends on it; `Host.Outcome` carries no count, so it is a function beside the step (log entry 5). -/

namespace Sys2Proof.Machine

/-- 70_reset_and_hazards.md R290 by opcode byte, sixteen a row; a conditional form not taken; 0 for an illegal value, whose step
returns no count. -/
def cycleTable : List Nat :=
  [4, 10, 7, 5, 5, 5, 7, 4, 0, 10, 7, 5, 5, 5, 7, 4]
    ++ [0, 10, 7, 5, 5, 5, 7, 4, 0, 10, 7, 5, 5, 5, 7, 4]
    ++ [0, 10, 16, 5, 5, 5, 7, 4, 0, 10, 16, 5, 5, 5, 7, 4]
    ++ [0, 10, 13, 5, 10, 10, 10, 4, 0, 10, 13, 5, 5, 5, 7, 4]
    ++ [5, 5, 5, 5, 5, 5, 7, 5, 5, 5, 5, 5, 5, 5, 7, 5]
    ++ [5, 5, 5, 5, 5, 5, 7, 5, 5, 5, 5, 5, 5, 5, 7, 5]
    ++ [5, 5, 5, 5, 5, 5, 7, 5, 5, 5, 5, 5, 5, 5, 7, 5]
    ++ [7, 7, 7, 7, 7, 7, 7, 7, 5, 5, 5, 5, 5, 5, 7, 5]
    ++ [4, 4, 4, 4, 4, 4, 7, 4, 4, 4, 4, 4, 4, 4, 7, 4]
    ++ [4, 4, 4, 4, 4, 4, 7, 4, 4, 4, 4, 4, 4, 4, 7, 4]
    ++ [4, 4, 4, 4, 4, 4, 7, 4, 4, 4, 4, 4, 4, 4, 7, 4]
    ++ [4, 4, 4, 4, 4, 4, 7, 4, 4, 4, 4, 4, 4, 4, 7, 4]
    ++ [5, 10, 10, 10, 11, 11, 7, 11, 5, 10, 10, 0, 11, 17, 7, 11]
    ++ [5, 10, 10, 10, 11, 11, 7, 11, 5, 0, 10, 10, 11, 0, 7, 11]
    ++ [5, 10, 10, 18, 11, 11, 7, 11, 5, 5, 10, 4, 11, 0, 7, 11]
    ++ [5, 10, 10, 4, 11, 11, 7, 11, 5, 5, 10, 4, 11, 0, 7, 11]

/-- The condition of a conditional call `11ccc100` or return `11ccc000` (30_encoding.md R90): the forms whose taken and
not-taken counts differ (70_reset_and_hazards.md R290). -/
def callOrReturnCond (op : Byte) : Option Cond :=
  if grpField op = 3 ∧ (lowField op = 0 ∨ lowField op = 4) then some (condOfBits (midField op)) else none

/-- The count of an instruction that completes in a state with flags `f`: 6 more for a conditional call or return taken. -/
def instrCycles (i : Instr) (f : Flags) : Nat :=
  cycleTable.getD (opcodeOf i).toNat 0
    + match callOrReturnCond (opcodeOf i) with
      | some cond => if condHolds cond f then 6 else 0
      | none => 0

/-- The count `Step()` returns from `s` when it completes (60_exceptions.md R250 steps 1 and 7). -/
def stepCycles (s : State) : Nat := if s.halt then Config.haltedStepCycles else instrCycles (fetch s) s.flags

end Sys2Proof.Machine
end

