-- ==== Sys2Proof/Machine/Launch.lean ====
section
/-! DEFINITION. The run of a launch, from its first state to its end (spec/70_reset_and_hazards.md R287), and the reference loader
that builds the initial memory and the protected ranges from image files (R283). -/

namespace Sys2Proof.Machine

/-! ## The run -/

/-- The arguments of a launch `(InitMem, Protected, E)` (70_reset_and_hazards.md R287). `events k` is the finite list of events of
boundary `k`, for every `k`: a driver that goes on making moves for ever is a launch too. -/
structure Launch where
  initMem : Memory
  prot : List ProtRange
  events : Nat → List DriverEvent

/-- The event is one a schedule of R287 holds, with arguments in range (70_reset_and_hazards.md R288 (2)): an interrupt or an input
event. A reset begins another run (R281). -/
def DriverEvent.legal : DriverEvent → Bool
  | .interrupt n => decide (n ≤ 7)
  | .input port bit _ => (port == 1 || port == 2) && decide (bit ≤ 7)
  | .reset => false

/-- Every event of the schedule is legal. -/
def Launch.Legal (x : Launch) : Prop := ∀ k, ∀ ev ∈ x.events k, ev.legal = true

/-- The reset state over `InitMem` (70_reset_and_hazards.md R280, R287). The run takes the driver's moves from `events`, so the
state's own schedule is empty. -/
def Launch.start (x : Launch) : State := { State.reset with mem := x.initMem, prot := x.prot }

/-- What the events of boundary `k` find: the reset state, or the result of `Step` on the state after boundary `k - 1`. -/
def Launch.before (x : Launch) : Nat → Result
  | 0 => .next x.start
  | k + 1 => andThen (andThen (x.before k) (applyEvents (x.events k))) coreStep

/-- `s(k)` of 70_reset_and_hazards.md R287: what the events of boundary `k` leave. A fault or a refusal before it stands here in
its place, and at every later `k`. -/
def Launch.stateAt (x : Launch) (k : Nat) : Result := andThen (x.before k) (applyEvents (x.events k))

/-- Boundary `j` has an `Interrupt` that finds `IE = 1`: that is what the events before it at the boundary leave. -/
def Launch.AcceptsAt (x : Launch) (j : Nat) : Prop :=
  ∃ earlier n later t, x.events j = earlier ++ .interrupt n :: later ∧
    andThen (x.before j) (applyEvents earlier) = .next t ∧ t.ie = true

/-- `s` is `s(k)`, it is halted, and no event at a boundary later than `k` is an `Interrupt` that finds `IE = 1`. -/
def Launch.EndCondition (x : Launch) (k : Nat) (s : State) : Prop :=
  x.stateAt k = .next s ∧ s.halt = true ∧ ∀ j, k < j → ¬x.AcceptsAt j

/-- The run ends at `k` with the end state `s` (70_reset_and_hazards.md R287, decision D39): `k` is the first that meets the
condition. A run for which there is no such `k` does not end. -/
def Launch.EndsAt (x : Launch) (k : Nat) (s : State) : Prop :=
  x.EndCondition k s ∧ ∀ m t, x.EndCondition m t → k ≤ m

/-- The run faults (70_reset_and_hazards.md R287, 60_exceptions.md R259): a step or an entry returns that fault. -/
def Launch.FaultsWith (x : Launch) (f : Fault) : Prop := ∃ k, x.stateAt k = .fault f

/-- The launch's first `n` boundaries as a state of `step`, whose schedule is a finite list (log entry 3). -/
def Launch.startWith (x : Launch) (n : Nat) : State := x.start.setSchedule ((List.range n).map x.events)

/-! ## The loader -/

/-- What the loader leaves (70_reset_and_hazards.md R283): memory, protected ranges and the final cursor. -/
structure Loaded where
  mem : Memory
  prot : List ProtRange
  cursor : Nat
  deriving DecidableEq, Repr

/-- `loadFiles(paths, baseOffset, protectAfterLoad)` on the files' contents (70_reset_and_hazards.md R283): concatenated in
order, written from the base on, `[0, cursor-1]` protected if asked for and not empty. An image that does not fit is a failed
load: there is no launch (`none`; decision of 93_implementation_defined.md U12). -/
def loadFiles (files : List (List Byte)) (base : Nat) (protectAfterLoad : Bool) (mem : Memory) (prot : List ProtRange) :
    Option Loaded :=
  let image := files.flatten
  let cursor := base + image.length
  if Config.memSize < cursor then none
  else
    let range := { first := 0, last := BitVec.ofNat 16 (cursor - 1) }
    some {
      mem := placeBytes image (BitVec.ofNat 16 base) mem
      prot := if protectAfterLoad && decide (0 < cursor) then prot ++ [range] else prot
      cursor := cursor }

end Sys2Proof.Machine
end

