-- ==== Sys2Proof/Safety.lean ====
section
/-! DEFINITION. The terms claims are stated in: the invariant of the machine, the frames (what an instruction leaves alone), the
spec's own tables of who writes what (spec/10_state.md R34, R26; spec/60_exceptions.md R261), an ended run as `step`
sees it (spec/70_reset_and_hazards.md R287), and many steps. -/

namespace Sys2Proof.Machine

/-! ## The invariant -/

/-- What every run keeps: memory in its canonical form, no pending enable while halted (10_state.md R30), and protected ranges
whose start is not above their end (20_memory.md R54). -/
abbrev State.Inv (s : State) : Prop :=
  Memory.wf s.mem = true ∧ (s.halt = true → s.pend = false) ∧ ∀ r ∈ s.prot, r.first.toNat ≤ r.last.toNat

/-! ## Result flags, said independently of the machine's computation -/

/-- How many bits of a byte are 1. -/
def setBits (v : Byte) : Nat := (List.range 8).countP fun k => v.getLsbD k

/-- Zero, Sign and Parity agree with a result byte (10_state.md R27). -/
abbrev ResultFlags (v : Byte) (f : Flags) : Prop :=
  (f.z = true ↔ v = 0) ∧ f.s = v.getLsbD 7 ∧ (f.p = true ↔ setBits v % 2 = 0)

/-! ## Frames -/

/-- No protected range holds the address (20_memory.md R54). -/
abbrev Unprotected (s : State) (addr : Word) : Prop := ∀ r ∈ s.prot, r.holds addr = false

/-- `r` is the first of the protected ranges that holds the address (60_exceptions.md R261). -/
def FirstHolder (s : State) (addr : Word) (r : ProtRange) : Prop :=
  ∃ before after, s.prot = before ++ r :: after ∧ (∀ q ∈ before, q.holds addr = false) ∧ r.holds addr = true

/-- Every byte of memory reads as before, but those at the listed addresses. -/
abbrev MemKeptBut (addrs : List Word) (s t : State) : Prop := ∀ x : Word, x ∉ addrs → memRead x t = memRead x s

/-- Every byte of memory reads as before. -/
abbrev MemKept (s t : State) : Prop := ∀ x : Word, memRead x t = memRead x s

/-- Every general register holds what it held, but those the listed selectors name. -/
abbrev RegsKeptBut (sels : List Sel) (s t : State) : Prop := ∀ r : Sel, r ≠ .m → r ∉ sels → rdOp r t = rdOp r s

/-- The interrupt latches, the halted bit, the IOBus, the configuration and the driver's schedule are unchanged. -/
abbrev ControlKept (s t : State) : Prop :=
  t.ie = s.ie ∧ t.pend = s.pend ∧ t.halt = s.halt ∧ t.io = s.io ∧ t.prot = s.prot ∧ t.schedule = s.schedule

/-- Everything but the general registers, the flags and `PC` is unchanged. -/
abbrev OnlyRegsAndFlags (s t : State) : Prop := t.sp = s.sp ∧ MemKept s t ∧ ControlKept s t

end Sys2Proof.Machine

namespace Sys2Proof

/-! ## The spec's tables of who writes what -/

/-- The instruction families (the mnemonic without its operands; `jcc`, `ccc`, `rcc` for the eight conditions each). -/
inductive Family where
  | nop | lxi | stax | inx | inr | dcr | mvi | rlc | illegal | dad | ldax | dcx
  | rrc | ral | rar | shld | daa | lhld | cma | sta | stc | lda | cmc | mov
  | hlt | add | adc | sub | sbb | ana | xra | ora | cmp | rcc | pop | jcc
  | jmp | ccc | push | adi | rst | ret | call | aci | out | sui | inp | sbi
  | xthl | ani | pchl | xchg | xri | popPsw | di | pushPsw | ori | sphl | ei | cpi
  deriving DecidableEq, Repr

/-- The family of an instruction. -/
def Instr.family (i : Instr) : Family :=
  match i with
  | .nop => .nop
  | .lxiB _ | .lxiD _ | .lxiH _ | .lxiSP _ => .lxi
  | .staxB | .staxD => .stax
  | .inxB | .inxD | .inxH | .inxSP => .inx
  | .inrB | .inrC | .inrD | .inrE | .inrH | .inrL | .inrM | .inrA => .inr
  | .dcrB | .dcrC | .dcrD | .dcrE | .dcrH | .dcrL | .dcrM | .dcrA => .dcr
  | .mviB _ | .mviC _ | .mviD _ | .mviE _ | .mviH _ | .mviL _ | .mviM _ | .mviA _ => .mvi
  | .rlc => .rlc
  | .illegal08 | .illegal10 | .illegal18 | .illegal20 | .illegal28 | .illegal30 | .illegal38 | .illegalCB
  | .illegalD9 | .illegalDD | .illegalED | .illegalFD => .illegal
  | .dadB | .dadD | .dadH | .dadSP => .dad
  | .ldaxB | .ldaxD => .ldax
  | .dcxB | .dcxD | .dcxH | .dcxSP => .dcx
  | .rrc => .rrc
  | .ral => .ral
  | .rar => .rar
  | .shld _ => .shld
  | .daa => .daa
  | .lhld _ => .lhld
  | .cma => .cma
  | .sta _ => .sta
  | .stc => .stc
  | .lda _ => .lda
  | .cmc => .cmc
  | .movBB | .movBC | .movBD | .movBE | .movBH | .movBL | .movBM | .movBA
  | .movCB | .movCC | .movCD | .movCE | .movCH | .movCL | .movCM | .movCA
  | .movDB | .movDC | .movDD | .movDE | .movDH | .movDL | .movDM | .movDA
  | .movEB | .movEC | .movED | .movEE | .movEH | .movEL | .movEM | .movEA
  | .movHB | .movHC | .movHD | .movHE | .movHH | .movHL | .movHM | .movHA
  | .movLB | .movLC | .movLD | .movLE | .movLH | .movLL | .movLM | .movLA
  | .movMB | .movMC | .movMD | .movME | .movMH | .movML | .movMA | .movAB
  | .movAC | .movAD | .movAE | .movAH | .movAL | .movAM | .movAA => .mov
  | .hlt => .hlt
  | .addB | .addC | .addD | .addE | .addH | .addL | .addM | .addA => .add
  | .adcB | .adcC | .adcD | .adcE | .adcH | .adcL | .adcM | .adcA => .adc
  | .subB | .subC | .subD | .subE | .subH | .subL | .subM | .subA => .sub
  | .sbbB | .sbbC | .sbbD | .sbbE | .sbbH | .sbbL | .sbbM | .sbbA => .sbb
  | .anaB | .anaC | .anaD | .anaE | .anaH | .anaL | .anaM | .anaA => .ana
  | .xraB | .xraC | .xraD | .xraE | .xraH | .xraL | .xraM | .xraA => .xra
  | .oraB | .oraC | .oraD | .oraE | .oraH | .oraL | .oraM | .oraA => .ora
  | .cmpB | .cmpC | .cmpD | .cmpE | .cmpH | .cmpL | .cmpM | .cmpA => .cmp
  | .rnz | .rz | .rnc | .rc | .rpo | .rpe | .rp | .rm => .rcc
  | .popB | .popD | .popH => .pop
  | .jnz _ | .jz _ | .jnc _ | .jc _ | .jpo _ | .jpe _ | .jp _ | .jm _ => .jcc
  | .jmp _ => .jmp
  | .cnz _ | .cz _ | .cnc _ | .cc _ | .cpo _ | .cpe _ | .cp _ | .cm _ => .ccc
  | .pushB | .pushD | .pushH => .push
  | .adi _ => .adi
  | .rst0 | .rst1 | .rst2 | .rst3 | .rst4 | .rst5 | .rst6 | .rst7 => .rst
  | .ret => .ret
  | .call _ => .call
  | .aci _ => .aci
  | .out _ => .out
  | .sui _ => .sui
  | .inp _ => .inp
  | .sbi _ => .sbi
  | .xthl => .xthl
  | .ani _ => .ani
  | .pchl => .pchl
  | .xchg => .xchg
  | .xri _ => .xri
  | .popPSW => .popPsw
  | .di => .di
  | .pushPSW => .pushPsw
  | .ori _ => .ori
  | .sphl => .sphl
  | .ei => .ei
  | .cpi _ => .cpi

/-- The families that write Zero, Sign and Parity (10_state.md R34, first row). -/
def resultFlagWriters : List Family :=
  [.add, .adc, .sub, .sbb, .adi, .aci, .sui, .sbi, .ana, .ani, .xra, .xri, .ora, .ori, .cmp, .cpi, .inr, .dcr, .daa, .popPsw]

/-- The families that write Carry (10_state.md R34, second row). -/
def carryWriters : List Family :=
  [.add, .adc, .sub, .sbb, .adi, .aci, .sui, .sbi, .cmp, .cpi, .ana, .ani, .xra, .xri, .ora, .ori, .rlc, .rrc, .ral, .rar,
    .dad, .daa, .stc, .cmc, .popPsw]

/-- The families that write AuxCarry (10_state.md R34, third row). -/
def auxWriters : List Family :=
  [.add, .adc, .sub, .sbb, .adi, .aci, .sui, .sbi, .cmp, .cpi, .inr, .dcr, .ana, .ani, .xra, .xri, .ora, .ori, .daa, .popPsw]

/-- The instructions that can write memory, and so can raise `ProtectedWrite` (60_exceptions.md R261). -/
def Instr.writesMem (i : Instr) : Bool :=
  match i with
  | .staxB | .staxD | .shld _ | .sta _ | .inrM | .dcrM | .mviM _ | .movMB
  | .movMC | .movMD | .movME | .movMH | .movML | .movMA | .cnz _ | .pushB
  | .rst0 | .cz _ | .call _ | .rst1 | .cnc _ | .pushD | .rst2 | .cc _
  | .rst3 | .xthl | .cpo _ | .pushH | .rst4 | .cpe _ | .rst5 | .cp _
  | .pushPSW | .rst6 | .cm _ | .rst7 => true
  | .nop | .lxiB _ | .inxB | .inrB | .dcrB | .mviB _ | .rlc | .illegal08
  | .dadB | .ldaxB | .dcxB | .inrC | .dcrC | .mviC _ | .rrc | .illegal10
  | .lxiD _ | .inxD | .inrD | .dcrD | .mviD _ | .ral | .illegal18 | .dadD
  | .ldaxD | .dcxD | .inrE | .dcrE | .mviE _ | .rar | .illegal20 | .lxiH _
  | .inxH | .inrH | .dcrH | .mviH _ | .daa | .illegal28 | .dadH | .lhld _
  | .dcxH | .inrL | .dcrL | .mviL _ | .cma | .illegal30 | .lxiSP _ | .inxSP
  | .stc | .illegal38 | .dadSP | .lda _ | .dcxSP | .inrA | .dcrA | .mviA _
  | .cmc | .movBB | .movBC | .movBD | .movBE | .movBH | .movBL | .movBM
  | .movBA | .movCB | .movCC | .movCD | .movCE | .movCH | .movCL | .movCM
  | .movCA | .movDB | .movDC | .movDD | .movDE | .movDH | .movDL | .movDM
  | .movDA | .movEB | .movEC | .movED | .movEE | .movEH | .movEL | .movEM
  | .movEA | .movHB | .movHC | .movHD | .movHE | .movHH | .movHL | .movHM
  | .movHA | .movLB | .movLC | .movLD | .movLE | .movLH | .movLL | .movLM
  | .movLA | .hlt | .movAB | .movAC | .movAD | .movAE | .movAH | .movAL
  | .movAM | .movAA | .addB | .addC | .addD | .addE | .addH | .addL
  | .addM | .addA | .adcB | .adcC | .adcD | .adcE | .adcH | .adcL
  | .adcM | .adcA | .subB | .subC | .subD | .subE | .subH | .subL
  | .subM | .subA | .sbbB | .sbbC | .sbbD | .sbbE | .sbbH | .sbbL
  | .sbbM | .sbbA | .anaB | .anaC | .anaD | .anaE | .anaH | .anaL
  | .anaM | .anaA | .xraB | .xraC | .xraD | .xraE | .xraH | .xraL
  | .xraM | .xraA | .oraB | .oraC | .oraD | .oraE | .oraH | .oraL
  | .oraM | .oraA | .cmpB | .cmpC | .cmpD | .cmpE | .cmpH | .cmpL
  | .cmpM | .cmpA | .rnz | .popB | .jnz _ | .jmp _ | .adi _ | .rz
  | .ret | .jz _ | .illegalCB | .aci _ | .rnc | .popD | .jnc _ | .out _
  | .sui _ | .rc | .illegalD9 | .jc _ | .inp _ | .illegalDD | .sbi _ | .rpo
  | .popH | .jpo _ | .ani _ | .rpe | .pchl | .jpe _ | .xchg | .illegalED
  | .xri _ | .rp | .popPSW | .jp _ | .di | .ori _ | .rm | .sphl
  | .jm _ | .ei | .illegalFD | .cpi _ => false

/-- The instructions that can write `SP` (10_state.md R26). -/
def Instr.writesSp (i : Instr) : Bool :=
  match i with
  | .lxiSP _ | .inxSP | .dcxSP | .rnz | .popB | .cnz _ | .pushB | .rst0
  | .rz | .ret | .cz _ | .call _ | .rst1 | .rnc | .popD | .cnc _
  | .pushD | .rst2 | .rc | .cc _ | .rst3 | .rpo | .popH | .cpo _
  | .pushH | .rst4 | .rpe | .cpe _ | .rst5 | .rp | .popPSW | .cp _
  | .pushPSW | .rst6 | .rm | .sphl | .cm _ | .rst7 => true
  | .nop | .lxiB _ | .staxB | .inxB | .inrB | .dcrB | .mviB _ | .rlc
  | .illegal08 | .dadB | .ldaxB | .dcxB | .inrC | .dcrC | .mviC _ | .rrc
  | .illegal10 | .lxiD _ | .staxD | .inxD | .inrD | .dcrD | .mviD _ | .ral
  | .illegal18 | .dadD | .ldaxD | .dcxD | .inrE | .dcrE | .mviE _ | .rar
  | .illegal20 | .lxiH _ | .shld _ | .inxH | .inrH | .dcrH | .mviH _ | .daa
  | .illegal28 | .dadH | .lhld _ | .dcxH | .inrL | .dcrL | .mviL _ | .cma
  | .illegal30 | .sta _ | .inrM | .dcrM | .mviM _ | .stc | .illegal38 | .dadSP
  | .lda _ | .inrA | .dcrA | .mviA _ | .cmc | .movBB | .movBC | .movBD
  | .movBE | .movBH | .movBL | .movBM | .movBA | .movCB | .movCC | .movCD
  | .movCE | .movCH | .movCL | .movCM | .movCA | .movDB | .movDC | .movDD
  | .movDE | .movDH | .movDL | .movDM | .movDA | .movEB | .movEC | .movED
  | .movEE | .movEH | .movEL | .movEM | .movEA | .movHB | .movHC | .movHD
  | .movHE | .movHH | .movHL | .movHM | .movHA | .movLB | .movLC | .movLD
  | .movLE | .movLH | .movLL | .movLM | .movLA | .movMB | .movMC | .movMD
  | .movME | .movMH | .movML | .hlt | .movMA | .movAB | .movAC | .movAD
  | .movAE | .movAH | .movAL | .movAM | .movAA | .addB | .addC | .addD
  | .addE | .addH | .addL | .addM | .addA | .adcB | .adcC | .adcD
  | .adcE | .adcH | .adcL | .adcM | .adcA | .subB | .subC | .subD
  | .subE | .subH | .subL | .subM | .subA | .sbbB | .sbbC | .sbbD
  | .sbbE | .sbbH | .sbbL | .sbbM | .sbbA | .anaB | .anaC | .anaD
  | .anaE | .anaH | .anaL | .anaM | .anaA | .xraB | .xraC | .xraD
  | .xraE | .xraH | .xraL | .xraM | .xraA | .oraB | .oraC | .oraD
  | .oraE | .oraH | .oraL | .oraM | .oraA | .cmpB | .cmpC | .cmpD
  | .cmpE | .cmpH | .cmpL | .cmpM | .cmpA | .jnz _ | .jmp _ | .adi _
  | .jz _ | .illegalCB | .aci _ | .jnc _ | .out _ | .sui _ | .illegalD9 | .jc _
  | .inp _ | .illegalDD | .sbi _ | .jpo _ | .xthl | .ani _ | .pchl | .jpe _
  | .xchg | .illegalED | .xri _ | .jp _ | .di | .ori _ | .jm _ | .ei
  | .illegalFD | .cpi _ => false

end Sys2Proof

namespace Sys2Proof.Machine

/-! ## The end of a run -/

/-- The event is an interrupt request. -/
def DriverEvent.isInterrupt : DriverEvent → Bool
  | .interrupt _ => true
  | .input _ _ _ => false
  | .reset => false

/-- The event is a reset, which begins another run (70_reset_and_hazards.md R281). -/
def DriverEvent.isReset : DriverEvent → Bool
  | .interrupt _ => false
  | .input _ _ _ => false
  | .reset => true

/-- The state is one of an ended run, said of a state `step` runs from, whose schedule holds the events still to come: halted,
and no interrupt among them finds `IE = 1`. A halted core changes `IE` only by accepting one, so the first request to come
decides. (The end of the run of a launch, first `k` and end state: `Launch.EndsAt`.) -/
abbrev State.Ended (s : State) : Prop :=
  s.halt = true ∧ (s.ie = true → ∀ evs ∈ s.schedule, ∀ ev ∈ evs, ev.isInterrupt = false)

/-! ## Many steps -/

/-- What `n` steps of the machine give. -/
def steps : Nat → State → Result
  | 0, s => .next s
  | n + 1, s => andThen (steps n s) step

end Sys2Proof.Machine
end

