-- ==== Sys2Proof/Certificates/Slice0/Obligations.lean ====
section
/-! DEFINITION. The statements for the provers, from the numbered rules of spec/. The claims of one shape share a predicate of
`Sys2Proof.Claims`, so that each says its whole effect and its whole frame. -/

open Sys2Proof Sys2Proof.Machine

namespace Sys2Proof.Claims

/-- `i` adds `b` and the carry `c` to `A`, is `len` bytes long and changes nothing else (41_arithmetic.md R130 to R132, R135,
R136): Carry is the carry out of bit 7, AuxCarry the carry out of bit 3. -/
def AddsToA (i : Instr) (b : Byte) (c : Bool) (len : Word) (s : State) : Prop :=
  ∃ t, exec i s = .next t ∧
    t.regs.a = BitVec.ofNat 8 (s.regs.a.toNat + b.toNat + c.toNat) ∧
    (t.flags.cy = true ↔ 256 ≤ s.regs.a.toNat + b.toNat + c.toNat) ∧
    (t.flags.ac = true ↔ 16 ≤ s.regs.a.toNat % 16 + b.toNat % 16 + c.toNat) ∧
    ResultFlags t.regs.a t.flags ∧ t.pc = s.pc + len ∧ RegsKeptBut [.a] s t ∧ OnlyRegsAndFlags s t

/-- The flags of the subtraction `a - b - c` (41_arithmetic.md R130): Carry is the borrow, AuxCarry the borrow out of the low
nibble. -/
def SubtractionFlags (a b : Byte) (c : Bool) (f : Flags) : Prop :=
  (f.cy = true ↔ a.toNat < b.toNat + c.toNat) ∧
    (f.ac = true ↔ a.toNat % 16 < b.toNat % 16 + c.toNat) ∧
    ResultFlags (a - b - BitVec.ofNat 8 c.toNat) f

/-- `i` subtracts `b` and the borrow `c` from `A`, and changes nothing else (41_arithmetic.md R133, R134, R137, R138). -/
def SubtractsFromA (i : Instr) (b : Byte) (c : Bool) (len : Word) (s : State) : Prop :=
  ∃ t, exec i s = .next t ∧
    t.regs.a = s.regs.a - b - BitVec.ofNat 8 c.toNat ∧ SubtractionFlags s.regs.a b c t.flags ∧
    t.pc = s.pc + len ∧ RegsKeptBut [.a] s t ∧ OnlyRegsAndFlags s t

/-- `i` leaves the flags of `A - b` and no other change (42_logical_rotate.md R167, R168). -/
def ComparesWithA (i : Instr) (b : Byte) (len : Word) (s : State) : Prop :=
  ∃ t, exec i s = .next t ∧
    SubtractionFlags s.regs.a b false t.flags ∧ (t.flags.z = true ↔ s.regs.a = b) ∧
    t.regs = s.regs ∧ t.pc = s.pc + len ∧ OnlyRegsAndFlags s t

/-- `i` puts `v` into `A`, clears Carry, sets AuxCarry to `ac`, the result flags from `v`, and changes nothing else
(42_logical_rotate.md R160). -/
def LogicToA (i : Instr) (v : Byte) (ac : Bool) (len : Word) (s : State) : Prop :=
  ∃ t, exec i s = .next t ∧
    t.regs.a = v ∧ t.flags.cy = false ∧ t.flags.ac = ac ∧ ResultFlags v t.flags ∧
    t.pc = s.pc + len ∧ RegsKeptBut [.a] s t ∧ OnlyRegsAndFlags s t

/-- `i` changes `A` and Carry only, and is one byte long (42_logical_rotate.md R170 to R173); `bit k` is the new bit `k` of
`A`. -/
def Rotates (i : Instr) (bit : Nat → Bool) (carry : Bool) (s : State) : Prop :=
  ∃ t, exec i s = .next t ∧
    (∀ k, k < 8 → t.regs.a.getLsbD k = bit k) ∧ t.flags = { s.flags with cy := carry } ∧
    t.pc = s.pc + 1 ∧ RegsKeptBut [.a] s t ∧ OnlyRegsAndFlags s t

/-- `i` puts `v` into `A`, writes no flag, is `len` bytes long and changes nothing else. -/
def LoadsA (i : Instr) (v : Byte) (len : Word) (s : State) : Prop :=
  ∃ t, exec i s = .next t ∧
    t.regs.a = v ∧ t.flags = s.flags ∧ t.pc = s.pc + len ∧ RegsKeptBut [.a] s t ∧ OnlyRegsAndFlags s t

/-- `i` stores the one byte `v` at `addr`, writes no register and no flag, is `len` bytes long and changes nothing else. -/
def StoresByte (i : Instr) (addr : Word) (v : Byte) (len : Word) (s : State) : Prop :=
  ∃ t, exec i s = .next t ∧
    memRead addr t = v ∧ MemKeptBut [addr] s t ∧ t.regs = s.regs ∧ t.flags = s.flags ∧
    t.sp = s.sp ∧ t.pc = s.pc + len ∧ ControlKept s t

/-- The outcome is a next state with `v` pushed (20_memory.md R58), `PC` at `target`, and no other change. -/
def PushesAndGoes (r : Result) (v target : Word) (s : State) : Prop :=
  ∃ t, r = .next t ∧
    memRead (s.sp - 1) t = hiByte v ∧ memRead (s.sp - 2) t = loByte v ∧ MemKeptBut [s.sp - 1, s.sp - 2] s t ∧
    t.sp = s.sp - 2 ∧ t.pc = target ∧ t.regs = s.regs ∧ t.flags = s.flags ∧ ControlKept s t

/-- The outcome is a next state with `PC` popped (20_memory.md R59), and no other change. -/
def PopsIntoPc (r : Result) (s : State) : Prop :=
  ∃ t, r = .next t ∧
    t.pc = wordOf (memRead (s.sp + 1) s) (memRead s.sp s) ∧ t.sp = s.sp + 2 ∧ t.regs = s.regs ∧
    t.flags = s.flags ∧ MemKept s t ∧ ControlKept s t

/-- A handler whose one store goes to `addr` raises `ProtectedWrite(addr)` when it is protected, and has changed nothing
(60_exceptions.md R261). -/
def OneStoreFaults (r : Result) (addr : Word) (s : State) : Prop :=
  ∀ range, FirstHolder s addr range → r = .fault (.protectedWrite addr range s)

/-- A handler that stores `v1` at `a1` and then a byte at `a2` faults at the first protected one of them in that order; if it is
the second, the first store, and nothing else, has been made (60_exceptions.md R261). -/
def TwoStoresFault (r : Result) (a1 a2 : Word) (v1 : Byte) (s : State) : Prop :=
  (∀ range, FirstHolder s a1 range → r = .fault (.protectedWrite a1 range s)) ∧
    ∀ range, Unprotected s a1 → FirstHolder s a2 range →
      ∃ left, r = .fault (.protectedWrite a2 range left) ∧
        memRead a1 left = v1 ∧ MemKeptBut [a1] s left ∧ left.regs = s.regs ∧ left.flags = s.flags ∧
        left.pc = s.pc ∧ left.sp = s.sp ∧ ControlKept s left

/-- A two-digit decimal number in packed BCD. -/
def bcd (n : Nat) : Byte := BitVec.ofNat 8 (n / 10 * 16 + n % 10)

end Sys2Proof.Claims

open Sys2Proof.Claims

/-! ## Encoding -/

/-- 30_encoding.md R80 to R91: decoding the encoding of an instruction, whatever bytes follow, gives it and those bytes back. -/
def Obligations.DecodeOfEncodeGivesInstrAndRest : Prop :=
  ∀ (i : Instr) (rest : List Byte), decode (encode i ++ rest) = .ok (i, rest)

/-- 30_encoding.md R80 to R91: no two byte sequences are one instruction: encoding what was decoded gives the bytes back. -/
def Obligations.EncodeOfDecodeGivesBytes : Prop :=
  ∀ (bytes rest : List Byte) (i : Instr), decode bytes = .ok (i, rest) → encode i ++ rest = bytes

/-- 30_encoding.md R80, R92, R93: an instruction is 1, 2 or 3 bytes long and starts with its opcode byte, which alone fixes the
length; the illegal opcode values are the twelve listed, and every other value is an instruction. R92 gives an illegal value no
length: that its row decodes as one byte is the model's (log entry 6, DEDUCED). -/
def Obligations.OpcodeAloneFixesLengthAndLegality : Prop :=
  illegalSet = [0x08, 0x10, 0x18, 0x20, 0x28, 0x30, 0x38, 0xCB, 0xD9, 0xDD, 0xED, 0xFD] ∧
    ∀ (op : Byte) (xs ys rx ry : List Byte) (i j : Instr),
      decode (op :: xs) = .ok (i, rx) → decode (op :: ys) = .ok (j, ry) →
        (encode i).length = (encode j).length ∧ 1 ≤ (encode i).length ∧ (encode i).length ≤ 3 ∧
          (encode i).head? = some op ∧ (i.wellFormed = false ↔ op ∈ illegalSet)

/-- Words written out from the spec's encodings (30_encoding.md R82, R87 to R90; the first three are the source's own). -/
def Obligations.WrittenWordsDecode : Prop :=
  decode [0x3E, 0x42] = .ok (.mviA 0x42, []) ∧ decode [0x06, 0x08] = .ok (.mviB 0x08, []) ∧
    decode [0x80] = .ok (.addB, []) ∧ decode [0x21, 0x34, 0x12] = .ok (.lxiH 0x1234, []) ∧
    decode [0x66] = .ok (.movHM, []) ∧ decode [0x07] = .ok (.rlc, []) ∧ decode [0xF5] = .ok (.pushPSW, []) ∧
    decode [0xC2, 0x34, 0x12] = .ok (.jnz 0x1234, []) ∧ decode [0xD3, 0x04] = .ok (.out 0x04, []) ∧
    decode [0x76] = .ok (.hlt, []) ∧ decode [0xCB] = .ok (.illegalCB, [])

/-! ## The step -/

/-- 60_exceptions.md R250, 30_encoding.md R83 to R85: with no driver move due, a running core executes the instruction its
bytes at `PC` decode to, after activating a pending enable. -/
def Obligations.StepRunsTheDecodedInstruction : Prop :=
  ∀ (s : State) (i : Instr) (rest : List Byte),
    s.halt = false → s.schedule = [] → i.wellFormed = true →
      decode [memRead s.pc s, memRead (s.pc + 1) s, memRead (s.pc + 2) s] = .ok (i, rest) →
        step s = exec i { s with ie := s.ie || s.pend, pend := false }

/-- 60_exceptions.md R251, R258: the driver's moves at the boundary come before the step, one after another in the driver's
order. -/
def Obligations.DriverMovesComeBeforeTheStep : Prop :=
  (∀ s : State, s.schedule = [] → step s = coreStep s) ∧
    (∀ (s : State) (rest : List (List DriverEvent)), s.schedule = [] :: rest →
      step s = coreStep { s with schedule := rest }) ∧
    ∀ (s t : State) (ev : DriverEvent) (evs : List DriverEvent) (rest : List (List DriverEvent)),
      s.schedule = (ev :: evs) :: rest → applyEvent ev { s with schedule := rest } = .next t →
        step s = step { t with schedule := evs :: t.schedule }

/-- 46_machine_control.md R243: a step while halted changes nothing. -/
def Obligations.HaltedStepChangesNothing : Prop :=
  ∀ s : State, s.halt = true → s.schedule = [] → step s = .next s

/-- 60_exceptions.md R260, 30_encoding.md R92: what each of the twelve illegal rows does in every state; and an illegal byte at
`PC` is a fault with its address and value, the state exactly the one before the step, `PEND` included. -/
def Obligations.IllegalOpcodesFaultUnchanged : Prop :=
  ∀ s : State,
    exec .illegal08 s = .fault (.illegalOpcode s.pc 0x08 s) ∧ exec .illegal10 s = .fault (.illegalOpcode s.pc 0x10 s) ∧
    exec .illegal18 s = .fault (.illegalOpcode s.pc 0x18 s) ∧ exec .illegal20 s = .fault (.illegalOpcode s.pc 0x20 s) ∧
    exec .illegal28 s = .fault (.illegalOpcode s.pc 0x28 s) ∧ exec .illegal30 s = .fault (.illegalOpcode s.pc 0x30 s) ∧
    exec .illegal38 s = .fault (.illegalOpcode s.pc 0x38 s) ∧ exec .illegalCB s = .fault (.illegalOpcode s.pc 0xCB s) ∧
    exec .illegalD9 s = .fault (.illegalOpcode s.pc 0xD9 s) ∧ exec .illegalDD s = .fault (.illegalOpcode s.pc 0xDD s) ∧
    exec .illegalED s = .fault (.illegalOpcode s.pc 0xED s) ∧ exec .illegalFD s = .fault (.illegalOpcode s.pc 0xFD s) ∧
    (s.halt = false → s.schedule = [] → memRead s.pc s ∈ illegalSet →
      step s = .fault (.illegalOpcode s.pc (memRead s.pc s) s))

/-! ## Data transfer -/

/-- 40_data_transfer.md R111, R112, every `MOV` and `MVI` into a register: it takes the source's value or the immediate, nothing
else changes. -/
def Obligations.MovAndMviWriteRegisters : Prop :=
  ∀ (dst : Sel) (s : State), dst ≠ .m →
    (∀ src : Sel, ∃ t, exec (movInstr dst src) s = .next t ∧
      rdOp dst t = rdOp src s ∧ RegsKeptBut [dst] s t ∧ t.flags = s.flags ∧ t.pc = s.pc + 1 ∧ OnlyRegsAndFlags s t) ∧
    ∀ d8 : Byte, ∃ t, exec (mviInstr dst d8) s = .next t ∧
      rdOp dst t = d8 ∧ RegsKeptBut [dst] s t ∧ t.flags = s.flags ∧ t.pc = s.pc + 2 ∧ OnlyRegsAndFlags s t

/-- 40_data_transfer.md R111, R112, the stores at `HL`: `MOV M,r` and `MVI M,d8` where `HL` is not protected. -/
def Obligations.MovAndMviStoreAtHl : Prop :=
  ∀ s : State, Unprotected s s.hl →
    (∀ src : Sel, src ≠ .m → StoresByte (movInstr .m src) s.hl (rdOp src s) 1 s) ∧
      ∀ d8 : Byte, StoresByte (.mviM d8) s.hl d8 2 s

/-- 40_data_transfer.md R113: `LXI` loads a pair or `SP`; the other pairs, `A` and the flags keep their values. -/
def Obligations.LxiLoadsPair : Prop :=
  ∀ (p : Pair) (d16 : Word) (s : State),
    ∃ t, exec (lxiInstr p d16) s = .next t ∧
      rdPair p t = d16 ∧ (∀ q, q ≠ p → rdPair q t = rdPair q s) ∧ t.regs.a = s.regs.a ∧ t.flags = s.flags ∧
      t.pc = s.pc + 3 ∧ MemKept s t ∧ ControlKept s t

/-- 40_data_transfer.md R114, R117, R119: the loads from memory. `LHLD` takes `L` from the lower address. -/
def Obligations.LoadsReadMemory : Prop :=
  (∀ (a16 : Word) (s : State), LoadsA (.lda a16) (memRead a16 s) 3 s) ∧
    (∀ s : State, LoadsA .ldaxB (memRead s.bc s) 1 s) ∧
    (∀ s : State, LoadsA .ldaxD (memRead s.de s) 1 s) ∧
    ∀ (a16 : Word) (s : State),
      ∃ t, exec (.lhld a16) s = .next t ∧
        t.regs.l = memRead a16 s ∧ t.regs.h = memRead (a16 + 1) s ∧ RegsKeptBut [.h, .l] s t ∧
        t.flags = s.flags ∧ t.pc = s.pc + 3 ∧ OnlyRegsAndFlags s t

/-- 40_data_transfer.md R115, R118, R120: the stores of `A`, and `SHLD` (`L` at the address, `H` at the next, modulo 2^16),
where the addresses are not protected. -/
def Obligations.StoresWriteMemory : Prop :=
  (∀ (a16 : Word) (s : State), Unprotected s a16 → StoresByte (.sta a16) a16 s.regs.a 3 s) ∧
    (∀ s : State, Unprotected s s.bc → StoresByte .staxB s.bc s.regs.a 1 s) ∧
    (∀ s : State, Unprotected s s.de → StoresByte .staxD s.de s.regs.a 1 s) ∧
    ∀ (a16 : Word) (s : State), Unprotected s a16 → Unprotected s (a16 + 1) →
      ∃ t, exec (.shld a16) s = .next t ∧
        memRead a16 t = s.regs.l ∧ memRead (a16 + 1) t = s.regs.h ∧ MemKeptBut [a16, a16 + 1] s t ∧
        t.regs = s.regs ∧ t.flags = s.flags ∧ t.sp = s.sp ∧ t.pc = s.pc + 3 ∧ ControlKept s t

/-- 40_data_transfer.md R121, 43_stack.md R195: `XCHG` exchanges `HL` and `DE`; `SPHL` copies `HL` to `SP`. -/
def Obligations.XchgAndSphl : Prop :=
  ∀ s : State,
    (∃ t, exec .xchg s = .next t ∧
      t.hl = s.de ∧ t.de = s.hl ∧ RegsKeptBut [.d, .e, .h, .l] s t ∧ t.flags = s.flags ∧ t.pc = s.pc + 1 ∧
      OnlyRegsAndFlags s t) ∧
    ∃ t, exec .sphl s = .next t ∧
      t.sp = s.hl ∧ t.regs = s.regs ∧ t.flags = s.flags ∧ t.pc = s.pc + 1 ∧ MemKept s t ∧ ControlKept s t

/-! ## Arithmetic -/

/-- 41_arithmetic.md R130, R131, R132, R135, R136: every form of `ADD`, `ADC`, `ADI`, `ACI`. -/
def Obligations.AdditionsAddToA : Prop :=
  ∀ s : State,
    (∀ src : Sel, AddsToA (aluInstr .add src) (rdOp src s) false 1 s) ∧
    (∀ src : Sel, AddsToA (aluInstr .adc src) (rdOp src s) s.flags.cy 1 s) ∧
    (∀ d8 : Byte, AddsToA (.adi d8) d8 false 2 s) ∧
    ∀ d8 : Byte, AddsToA (.aci d8) d8 s.flags.cy 2 s

/-- 41_arithmetic.md R130, R133, R134, R137, R138: every form of `SUB`, `SBB`, `SUI`, `SBI`. -/
def Obligations.SubtractionsSubtractFromA : Prop :=
  ∀ s : State,
    (∀ src : Sel, SubtractsFromA (aluInstr .sub src) (rdOp src s) false 1 s) ∧
    (∀ src : Sel, SubtractsFromA (aluInstr .sbb src) (rdOp src s) s.flags.cy 1 s) ∧
    (∀ d8 : Byte, SubtractsFromA (.sui d8) d8 false 2 s) ∧
    ∀ d8 : Byte, SubtractsFromA (.sbi d8) d8 s.flags.cy 2 s

/-- 41_arithmetic.md R139, R140 on a register: the value wraps, Carry is kept. -/
def Obligations.InrAndDcrOnRegisters : Prop :=
  ∀ (r : Sel) (s : State), r ≠ .m →
    (∃ t, exec (inrInstr r) s = .next t ∧
      rdOp r t = rdOp r s + 1 ∧ t.flags.cy = s.flags.cy ∧ (t.flags.ac = true ↔ (rdOp r s).toNat % 16 = 15) ∧
      ResultFlags (rdOp r s + 1) t.flags ∧ t.pc = s.pc + 1 ∧ RegsKeptBut [r] s t ∧ OnlyRegsAndFlags s t) ∧
    ∃ t, exec (dcrInstr r) s = .next t ∧
      rdOp r t = rdOp r s - 1 ∧ t.flags.cy = s.flags.cy ∧ (t.flags.ac = true ↔ (rdOp r s).toNat % 16 = 0) ∧
      ResultFlags (rdOp r s - 1) t.flags ∧ t.pc = s.pc + 1 ∧ RegsKeptBut [r] s t ∧ OnlyRegsAndFlags s t

/-- 41_arithmetic.md R139, R140 on memory, where `HL` is not protected. -/
def Obligations.InrAndDcrOnMemory : Prop :=
  ∀ s : State, Unprotected s s.hl →
    (∃ t, exec .inrM s = .next t ∧
      memRead s.hl t = memRead s.hl s + 1 ∧ MemKeptBut [s.hl] s t ∧ t.flags.cy = s.flags.cy ∧
      (t.flags.ac = true ↔ (memRead s.hl s).toNat % 16 = 15) ∧ ResultFlags (memRead s.hl s + 1) t.flags ∧
      t.regs = s.regs ∧ t.sp = s.sp ∧ t.pc = s.pc + 1 ∧ ControlKept s t) ∧
    ∃ t, exec .dcrM s = .next t ∧
      memRead s.hl t = memRead s.hl s - 1 ∧ MemKeptBut [s.hl] s t ∧ t.flags.cy = s.flags.cy ∧
      (t.flags.ac = true ↔ (memRead s.hl s).toNat % 16 = 0) ∧ ResultFlags (memRead s.hl s - 1) t.flags ∧
      t.regs = s.regs ∧ t.sp = s.sp ∧ t.pc = s.pc + 1 ∧ ControlKept s t

/-- 41_arithmetic.md R141, R142: a pair, or `SP`, plus or minus one modulo 2^16, and no flag. -/
def Obligations.InxAndDcxCountPairs : Prop :=
  ∀ (p : Pair) (s : State),
    (∃ t, exec (inxInstr p) s = .next t ∧
      rdPair p t = rdPair p s + 1 ∧ (∀ q, q ≠ p → rdPair q t = rdPair q s) ∧ t.regs.a = s.regs.a ∧
      t.flags = s.flags ∧ t.pc = s.pc + 1 ∧ MemKept s t ∧ ControlKept s t) ∧
    ∃ t, exec (dcxInstr p) s = .next t ∧
      rdPair p t = rdPair p s - 1 ∧ (∀ q, q ≠ p → rdPair q t = rdPair q s) ∧ t.regs.a = s.regs.a ∧
      t.flags = s.flags ∧ t.pc = s.pc + 1 ∧ MemKept s t ∧ ControlKept s t

/-- 41_arithmetic.md R145: `HL` plus a pair, Carry out of bit 15, no other flag. -/
def Obligations.DadAddsToHl : Prop :=
  ∀ (p : Pair) (s : State),
    ∃ t, exec (dadInstr p) s = .next t ∧
      t.hl = s.hl + rdPair p s ∧ (t.flags.cy = true ↔ 65536 ≤ s.hl.toNat + (rdPair p s).toNat) ∧
      t.flags = { s.flags with cy := t.flags.cy } ∧ RegsKeptBut [.h, .l] s t ∧ t.pc = s.pc + 1 ∧
      OnlyRegsAndFlags s t

/-- 41_arithmetic.md R146: the two corrections, the second judged after the first; Carry never cleared. -/
def Obligations.DaaAdjustsA : Prop :=
  ∀ s : State,
    let a := s.regs.a
    let low : Prop := 9 < a.toNat % 16 ∨ s.flags.ac = true
    ∃ (t : State) (a1 : Byte), exec .daa s = .next t ∧
      (low → a1 = a + 0x06) ∧ (¬low → a1 = a) ∧
      (t.flags.ac = true ↔ low ∧ 15 < a.toNat % 16 + 6) ∧
      (t.flags.cy = true ↔ s.flags.cy = true ∨ (low ∧ 256 ≤ a.toNat + 6) ∨ 9 < a1.toNat / 16) ∧
      t.regs.a = (if t.flags.cy then a1 + 0x60 else a1) ∧
      ResultFlags t.regs.a t.flags ∧ t.pc = s.pc + 1 ∧ RegsKeptBut [.a] s t ∧ OnlyRegsAndFlags s t

/-- From 41_arithmetic.md R132 and R146: `ADC B` then `DAA` on two packed decimal numbers is decimal addition, with
Carry the hundred. -/
def Obligations.AdcThenDaaIsDecimalAddition : Prop :=
  ∀ (x y : Nat) (s : State), x < 100 → y < 100 → s.regs.a = bcd x → s.regs.b = bcd y →
    ∃ t u, exec .adcB s = .next t ∧ exec .daa t = .next u ∧
      u.regs.a = bcd ((x + y + s.flags.cy.toNat) % 100) ∧
      (u.flags.cy = true ↔ 100 ≤ x + y + s.flags.cy.toNat)

/-- 41_arithmetic.md R148: an `ADD` then a `SUB` of the same operand leaves `A` as it was, in the register, memory and immediate
forms (with `A` itself as the operand the two operands differ, and `SUB A` gives 0); `DCX` after `INX` restores the pair,
wrap-around included. -/
def Obligations.ArithmeticRoundTrips : Prop :=
  (∀ (src : Sel) (s t : State), exec (aluInstr .add src) s = .next t →
    ∃ u, exec (aluInstr .sub src) t = .next u ∧
      u.regs = if src = .a then { s.regs with a := 0x00 } else s.regs) ∧
  (∀ (d8 : Byte) (s t : State), exec (.adi d8) s = .next t → ∃ u, exec (.sui d8) t = .next u ∧ u.regs = s.regs) ∧
  ∀ (p : Pair) (s t : State), exec (inxInstr p) s = .next t →
    ∃ u, exec (dcxInstr p) t = .next u ∧ u.regs = s.regs ∧ u.sp = s.sp ∧ u.flags = s.flags

/-! ## Logical, compare, rotate -/

/-- 42_logical_rotate.md R160 to R166: every form of `ANA`, `ANI`, `XRA`, `XRI`, `ORA`, `ORI`. -/
def Obligations.LogicalOperationsWriteA : Prop :=
  ∀ s : State,
    (∀ src : Sel, LogicToA (aluInstr .ana src) (s.regs.a &&& rdOp src s) ((s.regs.a ||| rdOp src s).getLsbD 3) 1 s) ∧
    (∀ d8 : Byte, LogicToA (.ani d8) (s.regs.a &&& d8) ((s.regs.a ||| d8).getLsbD 3) 2 s) ∧
    (∀ src : Sel, LogicToA (aluInstr .xra src) (s.regs.a ^^^ rdOp src s) false 1 s) ∧
    (∀ d8 : Byte, LogicToA (.xri d8) (s.regs.a ^^^ d8) false 2 s) ∧
    (∀ src : Sel, LogicToA (aluInstr .ora src) (s.regs.a ||| rdOp src s) false 1 s) ∧
    ∀ d8 : Byte, LogicToA (.ori d8) (s.regs.a ||| d8) false 2 s

/-- 42_logical_rotate.md R167, R168: every form of `CMP` and `CPI`. -/
def Obligations.ComparesWriteFlagsOnly : Prop :=
  ∀ s : State,
    (∀ src : Sel, ComparesWithA (aluInstr .cmp src) (rdOp src s) 1 s) ∧ ∀ d8 : Byte, ComparesWithA (.cpi d8) d8 2 s

/-- 42_logical_rotate.md R170 to R173, bit by bit. -/
def Obligations.RotatesMoveBits : Prop :=
  ∀ s : State,
    Rotates .rlc (fun k => s.regs.a.getLsbD ((k + 7) % 8)) (s.regs.a.getLsbD 7) s ∧
    Rotates .rrc (fun k => s.regs.a.getLsbD ((k + 1) % 8)) (s.regs.a.getLsbD 0) s ∧
    Rotates .ral (fun k => if k = 0 then s.flags.cy else s.regs.a.getLsbD (k - 1)) (s.regs.a.getLsbD 7) s ∧
    Rotates .rar (fun k => if k = 7 then s.flags.cy else s.regs.a.getLsbD (k + 1)) (s.regs.a.getLsbD 0) s

/-- 42_logical_rotate.md R174 to R176. -/
def Obligations.CmaStcCmc : Prop :=
  ∀ s : State,
    LoadsA .cma (s.regs.a ^^^ 0xFF) 1 s ∧
    (∃ t, exec .stc s = .next t ∧
      t.flags = { s.flags with cy := true } ∧ t.regs = s.regs ∧ t.pc = s.pc + 1 ∧ OnlyRegsAndFlags s t) ∧
    ∃ t, exec .cmc s = .next t ∧
      t.flags = { s.flags with cy := !s.flags.cy } ∧ t.regs = s.regs ∧ t.pc = s.pc + 1 ∧ OnlyRegsAndFlags s t

/-! ## Stack -/

/-- 10_state.md R28, R29: the PSW byte bit by bit, and that unpacking undoes packing. -/
def Obligations.PswByteLayout : Prop :=
  (∀ f : Flags,
    (pack f).getLsbD 7 = f.s ∧ (pack f).getLsbD 6 = f.z ∧ (pack f).getLsbD 5 = false ∧ (pack f).getLsbD 4 = f.ac ∧
    (pack f).getLsbD 3 = false ∧ (pack f).getLsbD 2 = f.p ∧ (pack f).getLsbD 1 = true ∧ (pack f).getLsbD 0 = f.cy ∧
    unpack (pack f) = f) ∧
  ∀ b : Byte,
    unpack b = { s := b.getLsbD 7, z := b.getLsbD 6, ac := b.getLsbD 4, p := b.getLsbD 2, cy := b.getLsbD 0 } ∧
      pack (unpack b) = (b &&& 0xD5) ||| 0x02

/-- 43_stack.md R190, R191: `PUSH rp` and `PUSH PSW`, where the two cells below `SP` are not protected. -/
def Obligations.PushStoresPair : Prop :=
  ∀ (p : StackPair) (s : State), Unprotected s (s.sp - 1) → Unprotected s (s.sp - 2) →
    PushesAndGoes (exec (pushInstr p) s) (rdStackPair p s) (s.pc + 1) s

/-- 43_stack.md R192, R193: `POP rp` (low register from `SP`, high register from the next address) and `POP PSW`; memory
unchanged. -/
def Obligations.PopLoadsPairOrPsw : Prop :=
  (∀ (p : StackPair) (s : State), p ≠ .psw →
    ∃ t, exec (popInstr p) s = .next t ∧
      rdStackPair p t = wordOf (memRead (s.sp + 1) s) (memRead s.sp s) ∧
      (∀ q, q ≠ p → rdStackPair q t = rdStackPair q s) ∧ t.flags = s.flags ∧
      t.sp = s.sp + 2 ∧ t.pc = s.pc + 1 ∧ MemKept s t ∧ ControlKept s t) ∧
  ∀ s : State,
    ∃ t, exec .popPSW s = .next t ∧
      t.regs.a = memRead (s.sp + 1) s ∧ t.flags.s = (memRead s.sp s).getLsbD 7 ∧
      t.flags.z = (memRead s.sp s).getLsbD 6 ∧ t.flags.ac = (memRead s.sp s).getLsbD 4 ∧
      t.flags.p = (memRead s.sp s).getLsbD 2 ∧ t.flags.cy = (memRead s.sp s).getLsbD 0 ∧
      RegsKeptBut [.a] s t ∧ t.sp = s.sp + 2 ∧ t.pc = s.pc + 1 ∧ MemKept s t ∧ ControlKept s t

/-- 43_stack.md R196 (1), (2): `PUSH` then `POP` of the same pair restores every register, the flags and `SP`. -/
def Obligations.PopUndoesPush : Prop :=
  ∀ (p : StackPair) (s t : State), exec (pushInstr p) s = .next t →
    ∃ u, exec (popInstr p) t = .next u ∧ u.regs = s.regs ∧ u.flags = s.flags ∧ u.sp = s.sp

/-- 43_stack.md R194: `XTHL`, where the word on top of the stack is not protected. -/
def Obligations.XthlExchangesTop : Prop :=
  ∀ s : State, Unprotected s s.sp → Unprotected s (s.sp + 1) →
    ∃ t, exec .xthl s = .next t ∧
      t.regs.l = memRead s.sp s ∧ t.regs.h = memRead (s.sp + 1) s ∧ memRead s.sp t = s.regs.l ∧
      memRead (s.sp + 1) t = s.regs.h ∧ MemKeptBut [s.sp, s.sp + 1] s t ∧ RegsKeptBut [.h, .l] s t ∧
      t.flags = s.flags ∧ t.sp = s.sp ∧ t.pc = s.pc + 1 ∧ ControlKept s t

/-! ## Control transfer -/

/-- 44_branch.md R200: `ccc[0]` is the flag value tested and `ccc[2:1]` selects Z, CY, P, S. -/
def Obligations.ConditionsByBits : Prop :=
  ∀ (ccc : BitVec 3) (f : Flags),
    (condHolds (condOfBits ccc) f = true ↔
      [f.z, f.cy, f.p, f.s].getD (ccc.toNat / 2) false = ccc.getLsbD 0)

/-- 44_branch.md R201, R202, R207: the jumps write `PC` and nothing else. -/
def Obligations.JumpsWritePcOnly : Prop :=
  ∀ s : State,
    (∀ a16 : Word, exec (.jmp a16) s = .next { s with pc := a16 }) ∧
    exec .pchl s = .next { s with pc := s.hl } ∧
    ∀ (cond : Cond) (a16 : Word),
      exec (jccInstr cond a16) s = .next { s with pc := if condHolds cond s.flags then a16 else s.pc + 3 }

/-- 44_branch.md R203, R204 taken, R208: the calls, where the two cells below `SP` are not protected. -/
def Obligations.CallsPushReturnAddress : Prop :=
  ∀ s : State, Unprotected s (s.sp - 1) → Unprotected s (s.sp - 2) →
    (∀ a16 : Word, PushesAndGoes (exec (.call a16) s) (s.pc + 3) a16 s) ∧
    (∀ (cond : Cond) (a16 : Word), condHolds cond s.flags = true →
      PushesAndGoes (exec (cccInstr cond a16) s) (s.pc + 3) a16 s) ∧
    ∀ n : BitVec 3, PushesAndGoes (exec (rstInstr n) s) (s.pc + 1) (BitVec.ofNat 16 (8 * n.toNat)) s

/-- 44_branch.md R204, R206 not taken: past the instruction, and no stack access, protected or not. -/
def Obligations.UntakenCallsAndReturnsFallThrough : Prop :=
  ∀ (cond : Cond) (s : State), condHolds cond s.flags = false →
    (∀ a16 : Word, exec (cccInstr cond a16) s = .next { s with pc := s.pc + 3 }) ∧
    exec (rccInstr cond) s = .next { s with pc := s.pc + 1 }

/-- 44_branch.md R205, R206 taken: the returns. -/
def Obligations.ReturnsPopPc : Prop :=
  ∀ s : State,
    PopsIntoPc (exec .ret s) s ∧
    ∀ cond : Cond, condHolds cond s.flags = true → PopsIntoPc (exec (rccInstr cond) s) s

/-- 44_branch.md R205, R209: `CALL` then `RET` returns to the call site plus 3, with `SP` as before. -/
def Obligations.RetUndoesCall : Prop :=
  ∀ (a16 : Word) (s t : State), exec (.call a16) s = .next t →
    ∃ u, exec .ret t = .next u ∧ u.pc = s.pc + 3 ∧ u.sp = s.sp ∧ u.regs = s.regs ∧ u.flags = s.flags

/-! ## Input and output -/

/-- 45_io_shift_register.md R220, R222, R226, R227, R229: `IN`, port by port; no flag and no device state changes. Bit `k` of the
port-3 window is bit `k + 8 - OFF` of the shift register. -/
def Obligations.InReadsPorts : Prop :=
  (∀ (io : IoBus) (k : Nat), k < 8 →
    (shiftWindow io).getLsbD k = (wordOf io.shh io.shl).getLsbD (k + (8 - io.off.toNat))) ∧
  ∀ s : State,
    LoadsA (.inp 1) s.io.in1 2 s ∧ LoadsA (.inp 2) s.io.in2 2 s ∧ LoadsA (.inp 3) (shiftWindow s.io) 2 s ∧
    ∀ port : Byte, port ≠ 1 → port ≠ 2 → port ≠ 3 → LoadsA (.inp port) 0x00 2 s

/-- 45_io_shift_register.md R221, R223 to R225, R229: `OUT`, port by port; nothing but the IOBus and `PC` changes. -/
def Obligations.OutWritesPorts : Prop :=
  ∀ s : State,
    exec (.out 2) s = .next { s with pc := s.pc + 2, io := { s.io with off := s.regs.a.setWidth 3 } } ∧
    exec (.out 4) s = .next { s with pc := s.pc + 2, io := { s.io with shl := s.io.shh, shh := s.regs.a } } ∧
    ∀ port : Byte, port ≠ 2 → port ≠ 4 → exec (.out port) s = .next { s with pc := s.pc + 2 }

/-- 20_memory.md R55, 45_io_shift_register.md R228: the ports are reached only by `IN` and `OUT`: no other instruction's effect
depends on the IOBus. -/
def Obligations.OnlyInAndOutSeeTheIoBus : Prop :=
  ∀ (i : Instr) (s t : State) (io : IoBus), i.family ≠ .inp → i.family ≠ .out →
    exec i s = .next t → exec i { s with io := io } = .next { t with io := io }

/-- 45_io_shift_register.md R230: an input event sets or clears one bit of one latch; out of range it is refused. -/
def Obligations.HandleInputWritesOneBit : Prop :=
  ∀ (bit : Nat) (pressed : Bool) (s : State),
    (bit ≤ 7 →
      (∃ v, handleInput 1 bit pressed s = .next { s with io := { s.io with in1 := v } } ∧
        ∀ k, v.getLsbD k = if k = bit then pressed else s.io.in1.getLsbD k) ∧
      ∃ v, handleInput 2 bit pressed s = .next { s with io := { s.io with in2 := v } } ∧
        ∀ k, v.getLsbD k = if k = bit then pressed else s.io.in2.getLsbD k) ∧
    ∀ port : Nat, (7 < bit ∨ (port ≠ 1 ∧ port ≠ 2)) →
      handleInput port bit pressed s = .refused (.inputOutOfRange port bit)

/-! ## Machine control, interrupts, faults, reset -/

/-- 46_machine_control.md R240 to R242, R244: what the handlers of `EI`, `DI`, `HLT`, `NOP` write. -/
def Obligations.ControlHandlers : Prop :=
  ∀ s : State,
    exec .ei s = .next { s with pend := true, pc := s.pc + 1 } ∧ exec .di s = .next { s with ie := false, pc := s.pc + 1 } ∧
    exec .hlt s = .next { s with halt := true } ∧ exec .nop s = .next { s with pc := s.pc + 1 }

/-- 70_reset_and_hazards.md R285, 46_machine_control.md R240, R241: after `EI`, `IE` is still its old value until the top of the
next step; a `DI` step ends with both latches clear. -/
def Obligations.EnableIsOneInstructionLate : Prop :=
  ∀ s : State, s.halt = false → s.schedule = [] →
    (fetch s = .ei → ∃ t, step s = .next t ∧ t.ie = (s.ie || s.pend) ∧ t.pend = true) ∧
    (fetch s = .di → ∃ t, step s = .next t ∧ t.ie = false ∧ t.pend = false) ∧
    ∀ t, step s = .next t → s.pend = true → fetch s ≠ .di → t.ie = true ∧ (fetch s ≠ .ei → t.pend = false)

/-- 60_exceptions.md R253, R255, R271: an accepted request, halted or not, where the two cells below `SP` are not protected. -/
def Obligations.InterruptIsTaken : Prop :=
  ∀ (n : Nat) (s : State), n ≤ 7 → s.ie = true → Unprotected s (s.sp - 1) → Unprotected s (s.sp - 2) →
    ∃ t, interrupt n s = .next t ∧
      memRead (s.sp - 1) t = hiByte s.pc ∧ memRead (s.sp - 2) t = loByte s.pc ∧
      MemKeptBut [s.sp - 1, s.sp - 2] s t ∧ t.sp = s.sp - 2 ∧ t.pc = BitVec.ofNat 16 (8 * n) ∧ t.ie = false ∧
      t.halt = false ∧ t.regs = s.regs ∧ t.flags = s.flags ∧ t.pend = s.pend ∧ t.io = s.io ∧ t.prot = s.prot ∧
      t.schedule = s.schedule

/-- 60_exceptions.md R252, R254: a request while `IE = 0` leaves no trace; an index above 7 is refused, which is the spec's
decision D11 and the model's log entry 11 (DEDUCED). -/
def Obligations.InterruptIsDroppedOrRefused : Prop :=
  ∀ (n : Nat) (s : State),
    (n ≤ 7 → s.ie = false → interrupt n s = .next s) ∧ (7 < n → interrupt n s = .refused (.vectorOutOfRange n))

/-- 60_exceptions.md R256, R257: the handler's `RET` resumes where the request came; a second request at the same boundary is
dropped. -/
def Obligations.RetUndoesInterrupt : Prop :=
  ∀ (n m : Nat) (s t : State), s.ie = true → interrupt n s = .next t →
    (∃ u, exec .ret t = .next u ∧ u.pc = s.pc ∧ u.sp = s.sp ∧ u.regs = s.regs ∧ u.flags = s.flags ∧ u.ie = false) ∧
    (m ≤ 7 → interrupt m t = .next t)

/-- 60_exceptions.md R261, 20_memory.md R53: every instruction with one memory write, where that address is protected. -/
def Obligations.ProtectedStoreFaults : Prop :=
  ∀ s : State,
    (∀ src : Sel, src ≠ .m → OneStoreFaults (exec (movInstr .m src) s) s.hl s) ∧
    (∀ d8 : Byte, OneStoreFaults (exec (.mviM d8) s) s.hl s) ∧
    OneStoreFaults (exec .inrM s) s.hl s ∧ OneStoreFaults (exec .dcrM s) s.hl s ∧
    (∀ a16 : Word, OneStoreFaults (exec (.sta a16) s) a16 s) ∧
    OneStoreFaults (exec .staxB s) s.bc s ∧ OneStoreFaults (exec .staxD s) s.de s

/-- 60_exceptions.md R261, 20_memory.md R58: every instruction with two memory writes, and the interrupt entry. -/
def Obligations.ProtectedSecondStoreLeavesFirst : Prop :=
  ∀ s : State,
    (∀ p : StackPair, TwoStoresFault (exec (pushInstr p) s) (s.sp - 1) (s.sp - 2) (hiByte (rdStackPair p s)) s) ∧
    (∀ a16 : Word, TwoStoresFault (exec (.call a16) s) (s.sp - 1) (s.sp - 2) (hiByte (s.pc + 3)) s) ∧
    (∀ (cond : Cond) (a16 : Word), condHolds cond s.flags = true →
      TwoStoresFault (exec (cccInstr cond a16) s) (s.sp - 1) (s.sp - 2) (hiByte (s.pc + 3)) s) ∧
    (∀ n : BitVec 3, TwoStoresFault (exec (rstInstr n) s) (s.sp - 1) (s.sp - 2) (hiByte (s.pc + 1)) s) ∧
    (∀ a16 : Word, TwoStoresFault (exec (.shld a16) s) a16 (a16 + 1) s.regs.l s) ∧
    TwoStoresFault (exec .xthl s) s.sp (s.sp + 1) s.regs.l s ∧
    ∀ n : Nat, n ≤ 7 → s.ie = true → TwoStoresFault (interrupt n s) (s.sp - 1) (s.sp - 2) (hiByte s.pc) s

/-- 60_exceptions.md R261, R262: no other instruction faults, a fault of an instruction names a protected range that holds the
address, and no instruction is refused. -/
def Obligations.OnlyListedInstructionsFault : Prop :=
  ∀ (i : Instr) (s : State), i.wellFormed = true →
    (∀ f, exec i s = .fault f → i.writesMem = true ∧
      ∃ addr range left, f = .protectedWrite addr range left ∧ range ∈ s.prot ∧ range.holds addr = true) ∧
    ∀ q, exec i s ≠ .refused q

/-- 70_reset_and_hazards.md R280, R282: `Reset()` zeroes everything but memory, `Protected` and the driver's own schedule. -/
def Obligations.ResetZeroesAllButMemory : Prop :=
  ∀ s : State, ∃ t, applyEvent .reset s = .next t ∧
    (∀ r : Sel, r ≠ .m → rdOp r t = 0x00) ∧ t.pc = 0x0000 ∧ t.sp = 0x0000 ∧ pack t.flags = 0x02 ∧ t.ie = false ∧
    t.pend = false ∧ t.halt = false ∧ t.io.shh = 0x00 ∧ t.io.shl = 0x00 ∧ t.io.off = 0 ∧ t.io.in1 = 0x00 ∧
    t.io.in2 = 0x00 ∧ t.mem = s.mem ∧ t.prot = s.prot ∧ t.schedule = s.schedule

/-- 70_reset_and_hazards.md R283: bulk loading puts byte `k` of an image at base plus `k`, whatever is protected, and changes no
other byte. If asked for, it protects every address below the cursor beside what was protected, and no other; if not, it
leaves the ranges as they are. -/
def Obligations.LoadedImageReadsBack : Prop :=
  ∀ (files : List (List Byte)) (base : Nat) (protect : Bool) (mem : Memory) (prot : List ProtRange) (x : Loaded),
    loadFiles files base protect mem prot = some x →
      x.cursor = base + files.flatten.length ∧ x.cursor ≤ 65536 ∧
      (∀ k, k < files.flatten.length → Memory.byteAt x.mem (base + k) = files.flatten.getD k 0) ∧
      (∀ a, a < base ∨ x.cursor ≤ a → Memory.byteAt x.mem a = Memory.byteAt mem a) ∧
      (protect = true → ∀ a : Word,
        (∃ r ∈ x.prot, r.holds a = true) ↔ a.toNat < x.cursor ∨ ∃ r ∈ prot, r.holds a = true) ∧
      (protect = false → x.prot = prot)

/-- 70_reset_and_hazards.md R290, every row of the table, with every form of it; a conditional form taken and not taken; what a
step returns, halted or running. -/
def Obligations.CycleCountsOfTheTable : Prop :=
  ∀ f : Flags,
    (∀ i ∈ [Instr.nop, .rlc, .rrc, .ral, .rar, .daa, .cma, .stc, .cmc, .xchg, .ei, .di], instrCycles i f = 4) ∧
    (∀ i ∈ [Instr.pchl, .sphl], instrCycles i f = 5) ∧
    (∀ i ∈ [Instr.staxB, .staxD, .ldaxB, .ldaxD, .hlt], instrCycles i f = 7) ∧
    instrCycles .ret f = 10 ∧ instrCycles .xthl f = 18 ∧
    (∀ (p : Pair) (d16 : Word), instrCycles (lxiInstr p d16) f = 10) ∧
    (∀ p : Pair, instrCycles (inxInstr p) f = 5 ∧ instrCycles (dcxInstr p) f = 5 ∧ instrCycles (dadInstr p) f = 10) ∧
    (∀ p : StackPair, instrCycles (pushInstr p) f = 11 ∧ instrCycles (popInstr p) f = 10) ∧
    (∀ a16 : Word, instrCycles (.sta a16) f = 13 ∧ instrCycles (.lda a16) f = 13 ∧
      instrCycles (.shld a16) f = 16 ∧ instrCycles (.lhld a16) f = 16) ∧
    (∀ port : Byte, instrCycles (.inp port) f = 10 ∧ instrCycles (.out port) f = 10) ∧
    (∀ a16 : Word, instrCycles (.jmp a16) f = 10 ∧ instrCycles (.call a16) f = 17) ∧
    (∀ n : BitVec 3, instrCycles (rstInstr n) f = 11) ∧
    (∀ dst src : Sel, instrCycles (movInstr dst src) f = if dst = .m ∨ src = .m then 7 else 5) ∧
    (∀ (dst : Sel) (d8 : Byte), instrCycles (mviInstr dst d8) f = if dst = .m then 10 else 7) ∧
    (∀ (op : AluOp) (src : Sel), instrCycles (aluInstr op src) f = if src = .m then 7 else 4) ∧
    (∀ (op : AluOp) (d8 : Byte), instrCycles (aluImmInstr op d8) f = 7) ∧
    (∀ dst : Sel, instrCycles (inrInstr dst) f = if dst = .m then 10 else 5) ∧
    (∀ dst : Sel, instrCycles (dcrInstr dst) f = if dst = .m then 10 else 5) ∧
    (∀ (cond : Cond) (a : Word), instrCycles (jccInstr cond a) f = 10) ∧
    (∀ (cond : Cond) (a : Word), instrCycles (cccInstr cond a) f = if condHolds cond f then 17 else 11) ∧
    (∀ cond : Cond, instrCycles (rccInstr cond) f = if condHolds cond f then 11 else 5) ∧
    ∀ s : State, stepCycles s = if s.halt then Config.haltedStepCycles else instrCycles (fetch s) s.flags

/-! ## The whole machine -/

/-- 10_state.md R34: an instruction whose family the table does not list as a writer of a flag leaves that flag unchanged. -/
def Obligations.FlagsChangeOnlyByTheirWriters : Prop :=
  ∀ (i : Instr) (s t : State), exec i s = .next t →
    (i.family ∉ resultFlagWriters → t.flags.z = s.flags.z ∧ t.flags.s = s.flags.s ∧ t.flags.p = s.flags.p) ∧
    (i.family ∉ carryWriters → t.flags.cy = s.flags.cy) ∧
    (i.family ∉ auxWriters → t.flags.ac = s.flags.ac)

/-- 60_exceptions.md R261, 10_state.md R26, R30, R31: every other piece of state changes only by the instructions the spec names
as its writers; the latches, the configuration and the schedule by none. -/
def Obligations.StateChangesOnlyByItsWriters : Prop :=
  ∀ (i : Instr) (s t : State), exec i s = .next t →
    (i.writesMem = false → MemKept s t) ∧ (i.writesSp = false → t.sp = s.sp) ∧
    (i.family ≠ .out → t.io = s.io) ∧ t.io.in1 = s.io.in1 ∧ t.io.in2 = s.io.in2 ∧
    (i.family ≠ .di → t.ie = s.ie) ∧ (i.family ≠ .ei → t.pend = s.pend) ∧ (i.family ≠ .hlt → t.halt = s.halt) ∧
    t.prot = s.prot ∧ t.schedule = s.schedule

/-- The invariant holds at reset (10_state.md R30, R35; 20_memory.md R54). -/
def Obligations.ResetMeetsTheInvariant : Prop := State.reset.Inv

/-- Headline: every step, the driver's moves before it included, keeps the invariant: memory in its canonical form, no pending
enable while halted (10_state.md R30), protected ranges in order (20_memory.md R54). -/
def Obligations.EveryStepKeepsTheInvariant : Prop :=
  ∀ s t : State, s.Inv → step s = .next t → t.Inv

/-- Headline, 20_memory.md R53, R54: no step, the driver's moves before it included, changes a byte of memory that a protected
range holds, nor the ranges. -/
def Obligations.ProtectedBytesNeverChange : Prop :=
  ∀ s t : State, step s = .next t →
    t.prot = s.prot ∧ ∀ (r : ProtRange) (x : Word), r ∈ s.prot → r.holds x = true → memRead x t = memRead x s

/-- Headline, 70_reset_and_hazards.md R287: once a run has ended it stays ended, and a step changes nothing but the input
latches (by the driver's events) and the schedule. -/
def Obligations.EndedRunStaysEnded : Prop :=
  ∀ s t : State, s.Ended → (∀ evs ∈ s.schedule, ∀ ev ∈ evs, ev.isReset = false) → step s = .next t →
    t.Ended ∧ t = { s with io := { s.io with in1 := t.io.in1, in2 := t.io.in2 }, schedule := s.schedule.tail }

/-- 70_reset_and_hazards.md R287. The steps of the machine from a launch's start, its first boundaries in the schedule (log entry
3), pass through the states each boundary finds. A run has at most one end; it does not fault before or after it, and from there
on changes nothing but the input latches, by the driver's input events. Without interrupts a run ends exactly right after the
first `HLT` executes, at the address of that `HLT`, a pending enable activated by that step. -/
def Obligations.RunOfALaunchAndItsEnd : Prop :=
  ∀ x : Launch,
    (∀ (n k : Nat) (u : State), k ≤ n →
      (steps k (x.startWith n) = .next u ↔
        ∃ t, x.before k = .next t ∧ u = { t with schedule := ((List.range n).map x.events).drop k })) ∧
    (x.Legal → ∀ (k : Nat) (s : State), x.EndsAt k s →
      (∀ (k' : Nat) (s' : State), x.EndsAt k' s' → k' = k ∧ s' = s) ∧ (∀ f, ¬x.FaultsWith f) ∧
        ∀ j, k ≤ j → ∃ t, x.stateAt j = .next t ∧ t = { s with io := { s.io with in1 := t.io.in1, in2 := t.io.in2 } }) ∧
    (x.Legal → (∀ j, ∀ ev ∈ x.events j, ev.isInterrupt = false) → ∀ (k : Nat) (s : State),
      (x.EndsAt k s ↔ ∃ (m : Nat) (r : State), k = m + 1 ∧ x.stateAt m = .next r ∧ r.halt = false ∧ fetch r = .hlt ∧
        x.stateAt k = .next s ∧
        s = { r with
          ie := r.ie || r.pend, pend := false, halt := true, io := { r.io with in1 := s.io.in1, in2 := s.io.in2 } }))
end

