-- ==== Sys2Proof/Laws/Memory.lean ====
section
/-! SUPPORT. The byte memory: a read after a store, and that every memory operation keeps the canonical form. The read-after-store
law holds of every list of cells, canonical or not. -/

namespace Sys2Proof.Machine

/-! ## Reading back -/

/-- An address no cell names reads as unlisted. -/
theorem Memory.byteAt_of_absent (m : Memory) {x : Nat} (h : ∀ c ∈ m, c.1 ≠ x) :
    Memory.byteAt m x = Config.unlistedByte := by
  induction m with
  | nil => rfl
  | cons c m ih =>
    have hne : x ≠ c.1 := (h c List.mem_cons_self).symm
    simp only [Memory.byteAt, if_neg hne]
    exact ih fun d hd => h d (List.mem_cons_of_mem _ hd)

/-- An erased memory names the address nowhere. -/
theorem Memory.erase_absent (m : Memory) (x : Nat) : ∀ c ∈ Memory.erase m x, c.1 ≠ x := by
  induction m with
  | nil => simp [Memory.erase]
  | cons c m ih =>
    obtain ⟨a, w⟩ := c
    unfold Memory.erase
    split
    · exact ih
    · next hne =>
      intro d hd
      rcases List.mem_cons.mp hd with rfl | hd
      · exact hne
      · exact ih d hd

/-- Erasing one address leaves the others. -/
theorem Memory.byteAt_erase_ne (m : Memory) {x y : Nat} (h : y ≠ x) :
    Memory.byteAt (Memory.erase m x) y = Memory.byteAt m y := by
  induction m with
  | nil => rfl
  | cons c m ih =>
    obtain ⟨a, w⟩ := c
    unfold Memory.erase
    split
    · next ha =>
      subst ha
      simp only [Memory.byteAt, if_neg h, ih]
    · simp only [Memory.byteAt, ih]

/-- Reading after listing a cell whose address was named nowhere. -/
theorem Memory.byteAt_insert (m : Memory) {x : Nat} (v : Byte) (h : ∀ c ∈ m, c.1 ≠ x) (y : Nat) :
    Memory.byteAt (Memory.insert m x v) y = if y = x then v else Memory.byteAt m y := by
  induction m with
  | nil => simp [Memory.insert, Memory.byteAt]
  | cons c m ih =>
    obtain ⟨a, w⟩ := c
    have hax : a ≠ x := h (a, w) List.mem_cons_self
    unfold Memory.insert
    split
    · rfl
    · simp only [Memory.byteAt, ih fun d hd => h d (List.mem_cons_of_mem _ hd)]
      by_cases hy : y = a
      · subst hy
        simp [hax]
      · simp [hy]

/-- A read after a store: the value stored at that address, and elsewhere what was read before. -/
theorem Memory.byteAt_put (m : Memory) (x : Nat) (v : Byte) (y : Nat) :
    Memory.byteAt (Memory.put m x v) y = if y = x then v else Memory.byteAt m y := by
  unfold Memory.put
  split
  · next hv =>
    split
    · next hy =>
      rw [hy, hv]
      exact Memory.byteAt_of_absent _ (Memory.erase_absent m x)
    · next hy => exact Memory.byteAt_erase_ne m hy
  · rw [Memory.byteAt_insert _ v (Memory.erase_absent m x)]
    split
    · rfl
    · next hy => exact Memory.byteAt_erase_ne m hy

/-! ## The canonical form -/

/-- The canonical form from a higher lower bound is the canonical form from a lower one. -/
theorem Memory.wfFrom_mono {lo lo' : Nat} (h : lo' ≤ lo) (m : Memory) (hm : Memory.wfFrom lo m = true) :
    Memory.wfFrom lo' m = true := by
  cases m with
  | nil => rfl
  | cons c m =>
    simp only [Memory.wfFrom, Bool.and_eq_true, decide_eq_true_eq] at hm ⊢
    exact ⟨⟨⟨h.trans hm.1.1.1, hm.1.1.2⟩, hm.1.2⟩, hm.2⟩

/-- Erasing keeps the canonical form. -/
theorem Memory.erase_wfFrom {lo : Nat} (m : Memory) (hm : Memory.wfFrom lo m = true) (x : Nat) :
    Memory.wfFrom lo (Memory.erase m x) = true := by
  induction m generalizing lo with
  | nil => rfl
  | cons c m ih =>
    obtain ⟨a, w⟩ := c
    simp only [Memory.wfFrom, Bool.and_eq_true, decide_eq_true_eq] at hm
    unfold Memory.erase
    split
    · exact Memory.wfFrom_mono (by omega) _ (ih hm.2)
    · simp only [Memory.wfFrom, Bool.and_eq_true, decide_eq_true_eq]
      exact ⟨hm.1, ih hm.2⟩

/-- Listing a cell at an address named nowhere keeps the canonical form. -/
theorem Memory.insert_wfFrom {lo : Nat} (m : Memory) (hm : Memory.wfFrom lo m = true) {x : Nat} {v : Byte}
    (hlo : lo ≤ x) (hx : x < Config.memSize) (hv : v ≠ Config.unlistedByte) (h : ∀ c ∈ m, c.1 ≠ x) :
    Memory.wfFrom lo (Memory.insert m x v) = true := by
  induction m generalizing lo with
  | nil => simp [Memory.insert, Memory.wfFrom, hlo, hx, hv]
  | cons c m ih =>
    obtain ⟨a, w⟩ := c
    have hax : a ≠ x := h (a, w) List.mem_cons_self
    simp only [Memory.wfFrom, Bool.and_eq_true, decide_eq_true_eq] at hm
    unfold Memory.insert
    split
    · next hlt =>
      simp only [Memory.wfFrom, Bool.and_eq_true, decide_eq_true_eq, bne_iff_ne]
      exact ⟨⟨⟨hlo, hx⟩, hv⟩, ⟨⟨hlt, hm.1.1.2⟩, bne_iff_ne.mp hm.1.2⟩, hm.2⟩
    · simp only [Memory.wfFrom, Bool.and_eq_true, decide_eq_true_eq]
      exact ⟨hm.1, ih hm.2 (by omega) fun d hd => h d (List.mem_cons_of_mem _ hd)⟩

/-- A store at a 16-bit address keeps the canonical form. -/
theorem Memory.put_wf {m : Memory} (hm : Memory.wf m = true) (addr : Word) (v : Byte) :
    Memory.wf (Memory.put m addr.toNat v) = true := by
  unfold Memory.put
  split
  · exact Memory.erase_wfFrom m hm _
  · next hv =>
    exact Memory.insert_wfFrom _ (Memory.erase_wfFrom m hm _) (Nat.zero_le _) addr.isLt hv (Memory.erase_absent m _)

end Sys2Proof.Machine
end

