-- ==== Sys2Proof/Laws/State.lean ====
section
/-! SUPPORT. One lemma per field per update of the state, each true by definition: no later proof unfolds a record update. -/

namespace Sys2Proof.Machine

variable (s : State)

/-! ## `State.setRegs` -/

@[simp] theorem State.setRegs_regs (v : Regs) : (s.setRegs v).regs = v := rfl
@[simp] theorem State.setRegs_flags (v : Regs) : (s.setRegs v).flags = s.flags := rfl
@[simp] theorem State.setRegs_pc (v : Regs) : (s.setRegs v).pc = s.pc := rfl
@[simp] theorem State.setRegs_sp (v : Regs) : (s.setRegs v).sp = s.sp := rfl
@[simp] theorem State.setRegs_ie (v : Regs) : (s.setRegs v).ie = s.ie := rfl
@[simp] theorem State.setRegs_pend (v : Regs) : (s.setRegs v).pend = s.pend := rfl
@[simp] theorem State.setRegs_halt (v : Regs) : (s.setRegs v).halt = s.halt := rfl
@[simp] theorem State.setRegs_mem (v : Regs) : (s.setRegs v).mem = s.mem := rfl
@[simp] theorem State.setRegs_io (v : Regs) : (s.setRegs v).io = s.io := rfl
@[simp] theorem State.setRegs_prot (v : Regs) : (s.setRegs v).prot = s.prot := rfl
@[simp] theorem State.setRegs_schedule (v : Regs) : (s.setRegs v).schedule = s.schedule := rfl

/-! ## `State.setFlags` -/

@[simp] theorem State.setFlags_regs (v : Flags) : (s.setFlags v).regs = s.regs := rfl
@[simp] theorem State.setFlags_flags (v : Flags) : (s.setFlags v).flags = v := rfl
@[simp] theorem State.setFlags_pc (v : Flags) : (s.setFlags v).pc = s.pc := rfl
@[simp] theorem State.setFlags_sp (v : Flags) : (s.setFlags v).sp = s.sp := rfl
@[simp] theorem State.setFlags_ie (v : Flags) : (s.setFlags v).ie = s.ie := rfl
@[simp] theorem State.setFlags_pend (v : Flags) : (s.setFlags v).pend = s.pend := rfl
@[simp] theorem State.setFlags_halt (v : Flags) : (s.setFlags v).halt = s.halt := rfl
@[simp] theorem State.setFlags_mem (v : Flags) : (s.setFlags v).mem = s.mem := rfl
@[simp] theorem State.setFlags_io (v : Flags) : (s.setFlags v).io = s.io := rfl
@[simp] theorem State.setFlags_prot (v : Flags) : (s.setFlags v).prot = s.prot := rfl
@[simp] theorem State.setFlags_schedule (v : Flags) : (s.setFlags v).schedule = s.schedule := rfl

/-! ## `State.setPc` -/

@[simp] theorem State.setPc_regs (v : Word) : (s.setPc v).regs = s.regs := rfl
@[simp] theorem State.setPc_flags (v : Word) : (s.setPc v).flags = s.flags := rfl
@[simp] theorem State.setPc_pc (v : Word) : (s.setPc v).pc = v := rfl
@[simp] theorem State.setPc_sp (v : Word) : (s.setPc v).sp = s.sp := rfl
@[simp] theorem State.setPc_ie (v : Word) : (s.setPc v).ie = s.ie := rfl
@[simp] theorem State.setPc_pend (v : Word) : (s.setPc v).pend = s.pend := rfl
@[simp] theorem State.setPc_halt (v : Word) : (s.setPc v).halt = s.halt := rfl
@[simp] theorem State.setPc_mem (v : Word) : (s.setPc v).mem = s.mem := rfl
@[simp] theorem State.setPc_io (v : Word) : (s.setPc v).io = s.io := rfl
@[simp] theorem State.setPc_prot (v : Word) : (s.setPc v).prot = s.prot := rfl
@[simp] theorem State.setPc_schedule (v : Word) : (s.setPc v).schedule = s.schedule := rfl

/-! ## `State.setSp` -/

@[simp] theorem State.setSp_regs (v : Word) : (s.setSp v).regs = s.regs := rfl
@[simp] theorem State.setSp_flags (v : Word) : (s.setSp v).flags = s.flags := rfl
@[simp] theorem State.setSp_pc (v : Word) : (s.setSp v).pc = s.pc := rfl
@[simp] theorem State.setSp_sp (v : Word) : (s.setSp v).sp = v := rfl
@[simp] theorem State.setSp_ie (v : Word) : (s.setSp v).ie = s.ie := rfl
@[simp] theorem State.setSp_pend (v : Word) : (s.setSp v).pend = s.pend := rfl
@[simp] theorem State.setSp_halt (v : Word) : (s.setSp v).halt = s.halt := rfl
@[simp] theorem State.setSp_mem (v : Word) : (s.setSp v).mem = s.mem := rfl
@[simp] theorem State.setSp_io (v : Word) : (s.setSp v).io = s.io := rfl
@[simp] theorem State.setSp_prot (v : Word) : (s.setSp v).prot = s.prot := rfl
@[simp] theorem State.setSp_schedule (v : Word) : (s.setSp v).schedule = s.schedule := rfl

/-! ## `State.setIe` -/

@[simp] theorem State.setIe_regs (v : Bool) : (s.setIe v).regs = s.regs := rfl
@[simp] theorem State.setIe_flags (v : Bool) : (s.setIe v).flags = s.flags := rfl
@[simp] theorem State.setIe_pc (v : Bool) : (s.setIe v).pc = s.pc := rfl
@[simp] theorem State.setIe_sp (v : Bool) : (s.setIe v).sp = s.sp := rfl
@[simp] theorem State.setIe_ie (v : Bool) : (s.setIe v).ie = v := rfl
@[simp] theorem State.setIe_pend (v : Bool) : (s.setIe v).pend = s.pend := rfl
@[simp] theorem State.setIe_halt (v : Bool) : (s.setIe v).halt = s.halt := rfl
@[simp] theorem State.setIe_mem (v : Bool) : (s.setIe v).mem = s.mem := rfl
@[simp] theorem State.setIe_io (v : Bool) : (s.setIe v).io = s.io := rfl
@[simp] theorem State.setIe_prot (v : Bool) : (s.setIe v).prot = s.prot := rfl
@[simp] theorem State.setIe_schedule (v : Bool) : (s.setIe v).schedule = s.schedule := rfl

/-! ## `State.setPend` -/

@[simp] theorem State.setPend_regs (v : Bool) : (s.setPend v).regs = s.regs := rfl
@[simp] theorem State.setPend_flags (v : Bool) : (s.setPend v).flags = s.flags := rfl
@[simp] theorem State.setPend_pc (v : Bool) : (s.setPend v).pc = s.pc := rfl
@[simp] theorem State.setPend_sp (v : Bool) : (s.setPend v).sp = s.sp := rfl
@[simp] theorem State.setPend_ie (v : Bool) : (s.setPend v).ie = s.ie := rfl
@[simp] theorem State.setPend_pend (v : Bool) : (s.setPend v).pend = v := rfl
@[simp] theorem State.setPend_halt (v : Bool) : (s.setPend v).halt = s.halt := rfl
@[simp] theorem State.setPend_mem (v : Bool) : (s.setPend v).mem = s.mem := rfl
@[simp] theorem State.setPend_io (v : Bool) : (s.setPend v).io = s.io := rfl
@[simp] theorem State.setPend_prot (v : Bool) : (s.setPend v).prot = s.prot := rfl
@[simp] theorem State.setPend_schedule (v : Bool) : (s.setPend v).schedule = s.schedule := rfl

/-! ## `State.setHalt` -/

@[simp] theorem State.setHalt_regs (v : Bool) : (s.setHalt v).regs = s.regs := rfl
@[simp] theorem State.setHalt_flags (v : Bool) : (s.setHalt v).flags = s.flags := rfl
@[simp] theorem State.setHalt_pc (v : Bool) : (s.setHalt v).pc = s.pc := rfl
@[simp] theorem State.setHalt_sp (v : Bool) : (s.setHalt v).sp = s.sp := rfl
@[simp] theorem State.setHalt_ie (v : Bool) : (s.setHalt v).ie = s.ie := rfl
@[simp] theorem State.setHalt_pend (v : Bool) : (s.setHalt v).pend = s.pend := rfl
@[simp] theorem State.setHalt_halt (v : Bool) : (s.setHalt v).halt = v := rfl
@[simp] theorem State.setHalt_mem (v : Bool) : (s.setHalt v).mem = s.mem := rfl
@[simp] theorem State.setHalt_io (v : Bool) : (s.setHalt v).io = s.io := rfl
@[simp] theorem State.setHalt_prot (v : Bool) : (s.setHalt v).prot = s.prot := rfl
@[simp] theorem State.setHalt_schedule (v : Bool) : (s.setHalt v).schedule = s.schedule := rfl

/-! ## `State.setMem` -/

@[simp] theorem State.setMem_regs (v : Memory) : (s.setMem v).regs = s.regs := rfl
@[simp] theorem State.setMem_flags (v : Memory) : (s.setMem v).flags = s.flags := rfl
@[simp] theorem State.setMem_pc (v : Memory) : (s.setMem v).pc = s.pc := rfl
@[simp] theorem State.setMem_sp (v : Memory) : (s.setMem v).sp = s.sp := rfl
@[simp] theorem State.setMem_ie (v : Memory) : (s.setMem v).ie = s.ie := rfl
@[simp] theorem State.setMem_pend (v : Memory) : (s.setMem v).pend = s.pend := rfl
@[simp] theorem State.setMem_halt (v : Memory) : (s.setMem v).halt = s.halt := rfl
@[simp] theorem State.setMem_mem (v : Memory) : (s.setMem v).mem = v := rfl
@[simp] theorem State.setMem_io (v : Memory) : (s.setMem v).io = s.io := rfl
@[simp] theorem State.setMem_prot (v : Memory) : (s.setMem v).prot = s.prot := rfl
@[simp] theorem State.setMem_schedule (v : Memory) : (s.setMem v).schedule = s.schedule := rfl

/-! ## `State.setIo` -/

@[simp] theorem State.setIo_regs (v : IoBus) : (s.setIo v).regs = s.regs := rfl
@[simp] theorem State.setIo_flags (v : IoBus) : (s.setIo v).flags = s.flags := rfl
@[simp] theorem State.setIo_pc (v : IoBus) : (s.setIo v).pc = s.pc := rfl
@[simp] theorem State.setIo_sp (v : IoBus) : (s.setIo v).sp = s.sp := rfl
@[simp] theorem State.setIo_ie (v : IoBus) : (s.setIo v).ie = s.ie := rfl
@[simp] theorem State.setIo_pend (v : IoBus) : (s.setIo v).pend = s.pend := rfl
@[simp] theorem State.setIo_halt (v : IoBus) : (s.setIo v).halt = s.halt := rfl
@[simp] theorem State.setIo_mem (v : IoBus) : (s.setIo v).mem = s.mem := rfl
@[simp] theorem State.setIo_io (v : IoBus) : (s.setIo v).io = v := rfl
@[simp] theorem State.setIo_prot (v : IoBus) : (s.setIo v).prot = s.prot := rfl
@[simp] theorem State.setIo_schedule (v : IoBus) : (s.setIo v).schedule = s.schedule := rfl

/-! ## `State.setSchedule` -/

@[simp] theorem State.setSchedule_regs (v : List (List DriverEvent)) : (s.setSchedule v).regs = s.regs := rfl
@[simp] theorem State.setSchedule_flags (v : List (List DriverEvent)) : (s.setSchedule v).flags = s.flags := rfl
@[simp] theorem State.setSchedule_pc (v : List (List DriverEvent)) : (s.setSchedule v).pc = s.pc := rfl
@[simp] theorem State.setSchedule_sp (v : List (List DriverEvent)) : (s.setSchedule v).sp = s.sp := rfl
@[simp] theorem State.setSchedule_ie (v : List (List DriverEvent)) : (s.setSchedule v).ie = s.ie := rfl
@[simp] theorem State.setSchedule_pend (v : List (List DriverEvent)) : (s.setSchedule v).pend = s.pend := rfl
@[simp] theorem State.setSchedule_halt (v : List (List DriverEvent)) : (s.setSchedule v).halt = s.halt := rfl
@[simp] theorem State.setSchedule_mem (v : List (List DriverEvent)) : (s.setSchedule v).mem = s.mem := rfl
@[simp] theorem State.setSchedule_io (v : List (List DriverEvent)) : (s.setSchedule v).io = s.io := rfl
@[simp] theorem State.setSchedule_prot (v : List (List DriverEvent)) : (s.setSchedule v).prot = s.prot := rfl
@[simp] theorem State.setSchedule_schedule (v : List (List DriverEvent)) : (s.setSchedule v).schedule = v := rfl

/-! ## `State.setA` -/

@[simp] theorem State.setA_regs (v : Byte) : (s.setA v).regs = { s.regs with a := v } := rfl
@[simp] theorem State.setA_flags (v : Byte) : (s.setA v).flags = s.flags := rfl
@[simp] theorem State.setA_pc (v : Byte) : (s.setA v).pc = s.pc := rfl
@[simp] theorem State.setA_sp (v : Byte) : (s.setA v).sp = s.sp := rfl
@[simp] theorem State.setA_ie (v : Byte) : (s.setA v).ie = s.ie := rfl
@[simp] theorem State.setA_pend (v : Byte) : (s.setA v).pend = s.pend := rfl
@[simp] theorem State.setA_halt (v : Byte) : (s.setA v).halt = s.halt := rfl
@[simp] theorem State.setA_mem (v : Byte) : (s.setA v).mem = s.mem := rfl
@[simp] theorem State.setA_io (v : Byte) : (s.setA v).io = s.io := rfl
@[simp] theorem State.setA_prot (v : Byte) : (s.setA v).prot = s.prot := rfl
@[simp] theorem State.setA_schedule (v : Byte) : (s.setA v).schedule = s.schedule := rfl

/-! ## `State.setB` -/

@[simp] theorem State.setB_regs (v : Byte) : (s.setB v).regs = { s.regs with b := v } := rfl
@[simp] theorem State.setB_flags (v : Byte) : (s.setB v).flags = s.flags := rfl
@[simp] theorem State.setB_pc (v : Byte) : (s.setB v).pc = s.pc := rfl
@[simp] theorem State.setB_sp (v : Byte) : (s.setB v).sp = s.sp := rfl
@[simp] theorem State.setB_ie (v : Byte) : (s.setB v).ie = s.ie := rfl
@[simp] theorem State.setB_pend (v : Byte) : (s.setB v).pend = s.pend := rfl
@[simp] theorem State.setB_halt (v : Byte) : (s.setB v).halt = s.halt := rfl
@[simp] theorem State.setB_mem (v : Byte) : (s.setB v).mem = s.mem := rfl
@[simp] theorem State.setB_io (v : Byte) : (s.setB v).io = s.io := rfl
@[simp] theorem State.setB_prot (v : Byte) : (s.setB v).prot = s.prot := rfl
@[simp] theorem State.setB_schedule (v : Byte) : (s.setB v).schedule = s.schedule := rfl

/-! ## `State.setC` -/

@[simp] theorem State.setC_regs (v : Byte) : (s.setC v).regs = { s.regs with c := v } := rfl
@[simp] theorem State.setC_flags (v : Byte) : (s.setC v).flags = s.flags := rfl
@[simp] theorem State.setC_pc (v : Byte) : (s.setC v).pc = s.pc := rfl
@[simp] theorem State.setC_sp (v : Byte) : (s.setC v).sp = s.sp := rfl
@[simp] theorem State.setC_ie (v : Byte) : (s.setC v).ie = s.ie := rfl
@[simp] theorem State.setC_pend (v : Byte) : (s.setC v).pend = s.pend := rfl
@[simp] theorem State.setC_halt (v : Byte) : (s.setC v).halt = s.halt := rfl
@[simp] theorem State.setC_mem (v : Byte) : (s.setC v).mem = s.mem := rfl
@[simp] theorem State.setC_io (v : Byte) : (s.setC v).io = s.io := rfl
@[simp] theorem State.setC_prot (v : Byte) : (s.setC v).prot = s.prot := rfl
@[simp] theorem State.setC_schedule (v : Byte) : (s.setC v).schedule = s.schedule := rfl

/-! ## `State.setD` -/

@[simp] theorem State.setD_regs (v : Byte) : (s.setD v).regs = { s.regs with d := v } := rfl
@[simp] theorem State.setD_flags (v : Byte) : (s.setD v).flags = s.flags := rfl
@[simp] theorem State.setD_pc (v : Byte) : (s.setD v).pc = s.pc := rfl
@[simp] theorem State.setD_sp (v : Byte) : (s.setD v).sp = s.sp := rfl
@[simp] theorem State.setD_ie (v : Byte) : (s.setD v).ie = s.ie := rfl
@[simp] theorem State.setD_pend (v : Byte) : (s.setD v).pend = s.pend := rfl
@[simp] theorem State.setD_halt (v : Byte) : (s.setD v).halt = s.halt := rfl
@[simp] theorem State.setD_mem (v : Byte) : (s.setD v).mem = s.mem := rfl
@[simp] theorem State.setD_io (v : Byte) : (s.setD v).io = s.io := rfl
@[simp] theorem State.setD_prot (v : Byte) : (s.setD v).prot = s.prot := rfl
@[simp] theorem State.setD_schedule (v : Byte) : (s.setD v).schedule = s.schedule := rfl

/-! ## `State.setE` -/

@[simp] theorem State.setE_regs (v : Byte) : (s.setE v).regs = { s.regs with e := v } := rfl
@[simp] theorem State.setE_flags (v : Byte) : (s.setE v).flags = s.flags := rfl
@[simp] theorem State.setE_pc (v : Byte) : (s.setE v).pc = s.pc := rfl
@[simp] theorem State.setE_sp (v : Byte) : (s.setE v).sp = s.sp := rfl
@[simp] theorem State.setE_ie (v : Byte) : (s.setE v).ie = s.ie := rfl
@[simp] theorem State.setE_pend (v : Byte) : (s.setE v).pend = s.pend := rfl
@[simp] theorem State.setE_halt (v : Byte) : (s.setE v).halt = s.halt := rfl
@[simp] theorem State.setE_mem (v : Byte) : (s.setE v).mem = s.mem := rfl
@[simp] theorem State.setE_io (v : Byte) : (s.setE v).io = s.io := rfl
@[simp] theorem State.setE_prot (v : Byte) : (s.setE v).prot = s.prot := rfl
@[simp] theorem State.setE_schedule (v : Byte) : (s.setE v).schedule = s.schedule := rfl

/-! ## `State.setH` -/

@[simp] theorem State.setH_regs (v : Byte) : (s.setH v).regs = { s.regs with h := v } := rfl
@[simp] theorem State.setH_flags (v : Byte) : (s.setH v).flags = s.flags := rfl
@[simp] theorem State.setH_pc (v : Byte) : (s.setH v).pc = s.pc := rfl
@[simp] theorem State.setH_sp (v : Byte) : (s.setH v).sp = s.sp := rfl
@[simp] theorem State.setH_ie (v : Byte) : (s.setH v).ie = s.ie := rfl
@[simp] theorem State.setH_pend (v : Byte) : (s.setH v).pend = s.pend := rfl
@[simp] theorem State.setH_halt (v : Byte) : (s.setH v).halt = s.halt := rfl
@[simp] theorem State.setH_mem (v : Byte) : (s.setH v).mem = s.mem := rfl
@[simp] theorem State.setH_io (v : Byte) : (s.setH v).io = s.io := rfl
@[simp] theorem State.setH_prot (v : Byte) : (s.setH v).prot = s.prot := rfl
@[simp] theorem State.setH_schedule (v : Byte) : (s.setH v).schedule = s.schedule := rfl

/-! ## `State.setL` -/

@[simp] theorem State.setL_regs (v : Byte) : (s.setL v).regs = { s.regs with l := v } := rfl
@[simp] theorem State.setL_flags (v : Byte) : (s.setL v).flags = s.flags := rfl
@[simp] theorem State.setL_pc (v : Byte) : (s.setL v).pc = s.pc := rfl
@[simp] theorem State.setL_sp (v : Byte) : (s.setL v).sp = s.sp := rfl
@[simp] theorem State.setL_ie (v : Byte) : (s.setL v).ie = s.ie := rfl
@[simp] theorem State.setL_pend (v : Byte) : (s.setL v).pend = s.pend := rfl
@[simp] theorem State.setL_halt (v : Byte) : (s.setL v).halt = s.halt := rfl
@[simp] theorem State.setL_mem (v : Byte) : (s.setL v).mem = s.mem := rfl
@[simp] theorem State.setL_io (v : Byte) : (s.setL v).io = s.io := rfl
@[simp] theorem State.setL_prot (v : Byte) : (s.setL v).prot = s.prot := rfl
@[simp] theorem State.setL_schedule (v : Byte) : (s.setL v).schedule = s.schedule := rfl

/-! ## `State.setBc` -/

@[simp] theorem State.setBc_regs (v : Word) : (s.setBc v).regs = { s.regs with b := hiByte v, c := loByte v } := rfl
@[simp] theorem State.setBc_flags (v : Word) : (s.setBc v).flags = s.flags := rfl
@[simp] theorem State.setBc_pc (v : Word) : (s.setBc v).pc = s.pc := rfl
@[simp] theorem State.setBc_sp (v : Word) : (s.setBc v).sp = s.sp := rfl
@[simp] theorem State.setBc_ie (v : Word) : (s.setBc v).ie = s.ie := rfl
@[simp] theorem State.setBc_pend (v : Word) : (s.setBc v).pend = s.pend := rfl
@[simp] theorem State.setBc_halt (v : Word) : (s.setBc v).halt = s.halt := rfl
@[simp] theorem State.setBc_mem (v : Word) : (s.setBc v).mem = s.mem := rfl
@[simp] theorem State.setBc_io (v : Word) : (s.setBc v).io = s.io := rfl
@[simp] theorem State.setBc_prot (v : Word) : (s.setBc v).prot = s.prot := rfl
@[simp] theorem State.setBc_schedule (v : Word) : (s.setBc v).schedule = s.schedule := rfl

/-! ## `State.setDe` -/

@[simp] theorem State.setDe_regs (v : Word) : (s.setDe v).regs = { s.regs with d := hiByte v, e := loByte v } := rfl
@[simp] theorem State.setDe_flags (v : Word) : (s.setDe v).flags = s.flags := rfl
@[simp] theorem State.setDe_pc (v : Word) : (s.setDe v).pc = s.pc := rfl
@[simp] theorem State.setDe_sp (v : Word) : (s.setDe v).sp = s.sp := rfl
@[simp] theorem State.setDe_ie (v : Word) : (s.setDe v).ie = s.ie := rfl
@[simp] theorem State.setDe_pend (v : Word) : (s.setDe v).pend = s.pend := rfl
@[simp] theorem State.setDe_halt (v : Word) : (s.setDe v).halt = s.halt := rfl
@[simp] theorem State.setDe_mem (v : Word) : (s.setDe v).mem = s.mem := rfl
@[simp] theorem State.setDe_io (v : Word) : (s.setDe v).io = s.io := rfl
@[simp] theorem State.setDe_prot (v : Word) : (s.setDe v).prot = s.prot := rfl
@[simp] theorem State.setDe_schedule (v : Word) : (s.setDe v).schedule = s.schedule := rfl

/-! ## `State.setHl` -/

@[simp] theorem State.setHl_regs (v : Word) : (s.setHl v).regs = { s.regs with h := hiByte v, l := loByte v } := rfl
@[simp] theorem State.setHl_flags (v : Word) : (s.setHl v).flags = s.flags := rfl
@[simp] theorem State.setHl_pc (v : Word) : (s.setHl v).pc = s.pc := rfl
@[simp] theorem State.setHl_sp (v : Word) : (s.setHl v).sp = s.sp := rfl
@[simp] theorem State.setHl_ie (v : Word) : (s.setHl v).ie = s.ie := rfl
@[simp] theorem State.setHl_pend (v : Word) : (s.setHl v).pend = s.pend := rfl
@[simp] theorem State.setHl_halt (v : Word) : (s.setHl v).halt = s.halt := rfl
@[simp] theorem State.setHl_mem (v : Word) : (s.setHl v).mem = s.mem := rfl
@[simp] theorem State.setHl_io (v : Word) : (s.setHl v).io = s.io := rfl
@[simp] theorem State.setHl_prot (v : Word) : (s.setHl v).prot = s.prot := rfl
@[simp] theorem State.setHl_schedule (v : Word) : (s.setHl v).schedule = s.schedule := rfl

/-! ## `State.advance` -/

@[simp] theorem State.advance_regs (n : Nat) : (s.advance n).regs = s.regs := rfl
@[simp] theorem State.advance_flags (n : Nat) : (s.advance n).flags = s.flags := rfl
@[simp] theorem State.advance_pc (n : Nat) : (s.advance n).pc = s.pc + BitVec.ofNat 16 n := rfl
@[simp] theorem State.advance_sp (n : Nat) : (s.advance n).sp = s.sp := rfl
@[simp] theorem State.advance_ie (n : Nat) : (s.advance n).ie = s.ie := rfl
@[simp] theorem State.advance_pend (n : Nat) : (s.advance n).pend = s.pend := rfl
@[simp] theorem State.advance_halt (n : Nat) : (s.advance n).halt = s.halt := rfl
@[simp] theorem State.advance_mem (n : Nat) : (s.advance n).mem = s.mem := rfl
@[simp] theorem State.advance_io (n : Nat) : (s.advance n).io = s.io := rfl
@[simp] theorem State.advance_prot (n : Nat) : (s.advance n).prot = s.prot := rfl
@[simp] theorem State.advance_schedule (n : Nat) : (s.advance n).schedule = s.schedule := rfl

/-! ## `dropTop` -/

@[simp] theorem dropTop_regs : (dropTop s).regs = s.regs := rfl
@[simp] theorem dropTop_flags : (dropTop s).flags = s.flags := rfl
@[simp] theorem dropTop_pc : (dropTop s).pc = s.pc := rfl
@[simp] theorem dropTop_sp : (dropTop s).sp = s.sp + 2 := rfl
@[simp] theorem dropTop_ie : (dropTop s).ie = s.ie := rfl
@[simp] theorem dropTop_pend : (dropTop s).pend = s.pend := rfl
@[simp] theorem dropTop_halt : (dropTop s).halt = s.halt := rfl
@[simp] theorem dropTop_mem : (dropTop s).mem = s.mem := rfl
@[simp] theorem dropTop_io : (dropTop s).io = s.io := rfl
@[simp] theorem dropTop_prot : (dropTop s).prot = s.prot := rfl
@[simp] theorem dropTop_schedule : (dropTop s).schedule = s.schedule := rfl

/-! ## `returnToTop` -/

@[simp] theorem returnToTop_regs : (returnToTop s).regs = s.regs := rfl
@[simp] theorem returnToTop_flags : (returnToTop s).flags = s.flags := rfl
@[simp] theorem returnToTop_pc : (returnToTop s).pc = stackTop s := rfl
@[simp] theorem returnToTop_sp : (returnToTop s).sp = s.sp + 2 := rfl
@[simp] theorem returnToTop_ie : (returnToTop s).ie = s.ie := rfl
@[simp] theorem returnToTop_pend : (returnToTop s).pend = s.pend := rfl
@[simp] theorem returnToTop_halt : (returnToTop s).halt = s.halt := rfl
@[simp] theorem returnToTop_mem : (returnToTop s).mem = s.mem := rfl
@[simp] theorem returnToTop_io : (returnToTop s).io = s.io := rfl
@[simp] theorem returnToTop_prot : (returnToTop s).prot = s.prot := rfl
@[simp] theorem returnToTop_schedule : (returnToTop s).schedule = s.schedule := rfl

end Sys2Proof.Machine
end

