-- ==== Sys2Proof/Laws/Ops.lean ====
section
/-! SUPPORT. For each shared operation, what it answers: the provers cite these and do not unfold the operations. -/

namespace Sys2Proof.Machine

/-! ## Sequencing -/

@[simp] theorem andThen_next (s : State) (k : State → Result) : andThen (.next s) k = k s := rfl
@[simp] theorem andThen_fault (f : Fault) (k : State → Result) : andThen (.fault f) k = .fault f := rfl
@[simp] theorem andThen_refused (q : Refusal) (k : State → Result) : andThen (.refused q) k = .refused q := rfl

theorem andThen_eq_next_iff {r : Result} {k : State → Result} {t : State} :
    andThen r k = .next t ↔ ∃ s, r = .next s ∧ k s = .next t := by
  cases r <;> simp [andThen]

theorem andThen_eq_fault_iff {r : Result} {k : State → Result} {f : Fault} :
    andThen r k = .fault f ↔ r = .fault f ∨ ∃ s, r = .next s ∧ k s = .fault f := by
  cases r <;> simp [andThen]

theorem andThen_eq_refused_iff {r : Result} {k : State → Result} {q : Refusal} :
    andThen r k = .refused q ↔ r = .refused q ∨ ∃ s, r = .next s ∧ k s = .refused q := by
  cases r <;> simp [andThen]

/-! ## Protection -/

theorem protectedBy_eq_none_iff {s : State} {addr : Word} : protectedBy s.prot addr = none ↔ Unprotected s addr := by
  simp [protectedBy, Unprotected]

theorem protectedBy_eq_some_iff {s : State} {addr : Word} {r : ProtRange} :
    protectedBy s.prot addr = some r ↔ FirstHolder s addr r := by
  simp only [protectedBy, FirstHolder, List.find?_eq_some_iff_append, Bool.not_eq_eq_eq_not, Bool.not_true]
  constructor
  · rintro ⟨hr, before, after, heq, hb⟩
    exact ⟨before, after, heq, hb, hr⟩
  · rintro ⟨before, after, heq, hb, hr⟩
    exact ⟨hr, before, after, heq, hb⟩

/-- The range a fault names is one of `Protected`, and holds the address. -/
theorem FirstHolder.mem_and_holds {s : State} {addr : Word} {r : ProtRange} (h : FirstHolder s addr r) :
    r ∈ s.prot ∧ r.holds addr = true := by
  obtain ⟨before, after, heq, -, hr⟩ := h
  exact ⟨by simp [heq], hr⟩

/-! ## One byte of memory -/

/-- A read after a store. -/
theorem memRead_setMem_put (s : State) (addr : Word) (v : Byte) (x : Word) :
    memRead x (s.setMem (Memory.put s.mem addr.toNat v)) = if x = addr then v else memRead x s := by
  simp [memRead, Memory.byteAt_put, BitVec.toNat_inj]

/-- A read depends on memory alone. -/
theorem memRead_congr {s t : State} (h : t.mem = s.mem) (x : Word) : memRead x t = memRead x s := by
  simp [memRead, h]

/-! A read sees no update but memory's. -/

@[simp] theorem memRead_setRegs (x : Word) (s : State) (v : Regs) : memRead x (s.setRegs v) = memRead x s := rfl
@[simp] theorem memRead_setFlags (x : Word) (s : State) (v : Flags) : memRead x (s.setFlags v) = memRead x s := rfl
@[simp] theorem memRead_setPc (x : Word) (s : State) (v : Word) : memRead x (s.setPc v) = memRead x s := rfl
@[simp] theorem memRead_setSp (x : Word) (s : State) (v : Word) : memRead x (s.setSp v) = memRead x s := rfl
@[simp] theorem memRead_setIe (x : Word) (s : State) (v : Bool) : memRead x (s.setIe v) = memRead x s := rfl
@[simp] theorem memRead_setPend (x : Word) (s : State) (v : Bool) : memRead x (s.setPend v) = memRead x s := rfl
@[simp] theorem memRead_setHalt (x : Word) (s : State) (v : Bool) : memRead x (s.setHalt v) = memRead x s := rfl
@[simp] theorem memRead_setIo (x : Word) (s : State) (v : IoBus) : memRead x (s.setIo v) = memRead x s := rfl
@[simp] theorem memRead_setSchedule (x : Word) (s : State) (v : List (List DriverEvent)) : memRead x (s.setSchedule v) = memRead x s := rfl
@[simp] theorem memRead_setA (x : Word) (s : State) (v : Byte) : memRead x (s.setA v) = memRead x s := rfl
@[simp] theorem memRead_setB (x : Word) (s : State) (v : Byte) : memRead x (s.setB v) = memRead x s := rfl
@[simp] theorem memRead_setC (x : Word) (s : State) (v : Byte) : memRead x (s.setC v) = memRead x s := rfl
@[simp] theorem memRead_setD (x : Word) (s : State) (v : Byte) : memRead x (s.setD v) = memRead x s := rfl
@[simp] theorem memRead_setE (x : Word) (s : State) (v : Byte) : memRead x (s.setE v) = memRead x s := rfl
@[simp] theorem memRead_setH (x : Word) (s : State) (v : Byte) : memRead x (s.setH v) = memRead x s := rfl
@[simp] theorem memRead_setL (x : Word) (s : State) (v : Byte) : memRead x (s.setL v) = memRead x s := rfl

theorem memWrite_of_unprotected {s : State} {addr : Word} (h : Unprotected s addr) (v : Byte) :
    memWrite addr v s = .next (s.setMem (Memory.put s.mem addr.toNat v)) := by
  simp [memWrite, protectedBy_eq_none_iff.mpr h]

theorem memWrite_of_firstHolder {s : State} {addr : Word} {r : ProtRange} (h : FirstHolder s addr r) (v : Byte) :
    memWrite addr v s = .fault (.protectedWrite addr r s) := by
  simp [memWrite, protectedBy_eq_some_iff.mpr h]

/-- Everything `memWrite` can do. -/
theorem memWrite_cases (addr : Word) (v : Byte) (s : State) :
    (Unprotected s addr ∧ memWrite addr v s = .next (s.setMem (Memory.put s.mem addr.toNat v))) ∨
      ∃ r, FirstHolder s addr r ∧ memWrite addr v s = .fault (.protectedWrite addr r s) := by
  cases h : protectedBy s.prot addr with
  | none => exact .inl ⟨protectedBy_eq_none_iff.mp h, memWrite_of_unprotected (protectedBy_eq_none_iff.mp h) v⟩
  | some r => exact .inr ⟨r, protectedBy_eq_some_iff.mp h, memWrite_of_firstHolder (protectedBy_eq_some_iff.mp h) v⟩

theorem memWrite_eq_next_iff {addr : Word} {v : Byte} {s t : State} :
    memWrite addr v s = .next t ↔ Unprotected s addr ∧ t = s.setMem (Memory.put s.mem addr.toNat v) := by
  constructor
  · intro h
    rcases memWrite_cases addr v s with ⟨hu, he⟩ | ⟨r, -, he⟩
    · exact ⟨hu, by simpa using h.symm.trans he⟩
    · simp [he] at h
  · rintro ⟨hu, rfl⟩
    exact memWrite_of_unprotected hu v

theorem memWrite_eq_fault_iff {addr : Word} {v : Byte} {s : State} {f : Fault} :
    memWrite addr v s = .fault f ↔ ∃ r, FirstHolder s addr r ∧ f = .protectedWrite addr r s := by
  constructor
  · intro h
    rcases memWrite_cases addr v s with ⟨-, he⟩ | ⟨r, hr, he⟩
    · simp [he] at h
    · exact ⟨r, hr, by simpa using h.symm.trans he⟩
  · rintro ⟨r, hr, rfl⟩
    exact memWrite_of_firstHolder hr v

theorem memWrite_ne_refused (addr : Word) (v : Byte) (s : State) (q : Refusal) : memWrite addr v s ≠ .refused q := by
  rcases memWrite_cases addr v s with ⟨-, he⟩ | ⟨r, -, he⟩ <;> simp [he]

/-! ## Two bytes of memory, one after the other -/

/-- Two stores: what they answer. -/
theorem memWrite_memWrite_cases (a1 a2 : Word) (v1 v2 : Byte) (s : State) :
    (∃ r, FirstHolder s a1 r ∧
        andThen (memWrite a1 v1 s) (memWrite a2 v2) = .fault (.protectedWrite a1 r s)) ∨
      (∃ r, Unprotected s a1 ∧ FirstHolder s a2 r ∧
        andThen (memWrite a1 v1 s) (memWrite a2 v2) =
          .fault (.protectedWrite a2 r (s.setMem (Memory.put s.mem a1.toNat v1)))) ∨
      (Unprotected s a1 ∧ Unprotected s a2 ∧
        andThen (memWrite a1 v1 s) (memWrite a2 v2) =
          .next (s.setMem (Memory.put (Memory.put s.mem a1.toNat v1) a2.toNat v2))) := by
  rcases memWrite_cases a1 v1 s with ⟨h1, e1⟩ | ⟨r, h1, e1⟩
  · rcases memWrite_cases a2 v2 (s.setMem (Memory.put s.mem a1.toNat v1)) with ⟨h2, e2⟩ | ⟨r, h2, e2⟩
    · exact .inr (.inr ⟨h1, h2, by rw [e1]; exact e2⟩)
    · exact .inr (.inl ⟨r, h1, h2, by rw [e1]; exact e2⟩)
  · exact .inl ⟨r, h1, by rw [e1]; rfl⟩

/-- Reading after two stores; the later one wins where they coincide. -/
theorem memRead_setMem_put_put (s : State) (a1 a2 : Word) (v1 v2 : Byte) (x : Word) :
    memRead x (s.setMem (Memory.put (Memory.put s.mem a1.toNat v1) a2.toNat v2)) =
      if x = a2 then v2 else if x = a1 then v1 else memRead x s := by
  simp [memRead, Memory.byteAt_put, BitVec.toNat_inj]

/-! ## The program counter -/

@[simp] theorem State.advance_eq (n : Nat) (s : State) : s.advance n = s.setPc (s.pc + BitVec.ofNat 16 n) := rfl
@[simp] theorem finish_eq (n : Nat) (s : State) : finish n s = .next (s.setPc (s.pc + BitVec.ofNat 16 n)) := rfl

/-! ## The stack -/

/-- The two cells below `SP` are different bytes, so a pushed word reads back whole. -/
theorem sub_two_ne_sub_one (sp : Word) : sp - 2 ≠ sp - 1 := by bv_omega

/-- The state after a push that does not fault. -/
theorem push16_of_unprotected {s : State} (h1 : Unprotected s (s.sp - 1)) (h2 : Unprotected s (s.sp - 2)) (v : Word) :
    push16 v s = .next ((s.setMem (Memory.put (Memory.put s.mem (s.sp - 1).toNat (hiByte v)) (s.sp - 2).toNat
      (loByte v))).setSp (s.sp - 2)) := by
  unfold push16
  rw [memWrite_of_unprotected h1, andThen_next,
    memWrite_of_unprotected (s := s.setMem (Memory.put s.mem (s.sp - 1).toNat (hiByte v))) h2]
  rfl

/-- Everything `push16` can do. -/
theorem push16_cases (v : Word) (s : State) :
    (∃ r, FirstHolder s (s.sp - 1) r ∧ push16 v s = .fault (.protectedWrite (s.sp - 1) r s)) ∨
      (∃ r, Unprotected s (s.sp - 1) ∧ FirstHolder s (s.sp - 2) r ∧
        push16 v s = .fault (.protectedWrite (s.sp - 2) r
          (s.setMem (Memory.put s.mem (s.sp - 1).toNat (hiByte v))))) ∨
      (Unprotected s (s.sp - 1) ∧ Unprotected s (s.sp - 2) ∧
        push16 v s = .next ((s.setMem (Memory.put (Memory.put s.mem (s.sp - 1).toNat (hiByte v)) (s.sp - 2).toNat
          (loByte v))).setSp (s.sp - 2))) := by
  unfold push16
  rcases memWrite_cases (s.sp - 1) (hiByte v) s with ⟨h1, e1⟩ | ⟨r, h1, e1⟩
  · rw [e1, andThen_next]
    rcases memWrite_cases (s.sp - 2) (loByte v) (s.setMem (Memory.put s.mem (s.sp - 1).toNat (hiByte v)))
      with ⟨h2, e2⟩ | ⟨r, h2, e2⟩
    · exact .inr (.inr ⟨h1, h2, by rw [e2]; rfl⟩)
    · exact .inr (.inl ⟨r, h1, h2, by rw [e2]; rfl⟩)
  · exact .inl ⟨r, h1, by rw [e1]; rfl⟩

/-- What a push that answers a next state has done. -/
theorem push16_eq_next {v : Word} {s t : State} (h : push16 v s = .next t) :
    Unprotected s (s.sp - 1) ∧ Unprotected s (s.sp - 2) ∧
      t = (s.setMem (Memory.put (Memory.put s.mem (s.sp - 1).toNat (hiByte v)) (s.sp - 2).toNat
        (loByte v))).setSp (s.sp - 2) := by
  rcases push16_cases v s with ⟨r, -, e⟩ | ⟨r, -, -, e⟩ | ⟨h1, h2, e⟩
  · simp [e] at h
  · simp [e] at h
  · exact ⟨h1, h2, by simpa using h.symm.trans e⟩

theorem push16_ne_refused (v : Word) (s : State) (q : Refusal) : push16 v s ≠ .refused q := by
  rcases push16_cases v s with ⟨r, -, e⟩ | ⟨r, -, -, e⟩ | ⟨-, -, e⟩ <;> simp [e]

/-- Taking a word apart and putting it together again. -/
@[simp] theorem wordOf_hiByte_loByte (v : Word) : wordOf (hiByte v) (loByte v) = v := by
  ext i hi
  simp only [wordOf, hiByte, loByte]
  grind

@[simp] theorem hiByte_wordOf (hi lo : Byte) : hiByte (wordOf hi lo) = hi := by
  ext i h
  simp only [wordOf, hiByte]
  grind

@[simp] theorem loByte_wordOf (hi lo : Byte) : loByte (wordOf hi lo) = lo := by
  ext i h
  simp only [wordOf, loByte]
  grind

/-! ## Register pairs -/

@[simp] theorem State.setHl_hl (s : State) (v : Word) : (s.setHl v).hl = v := wordOf_hiByte_loByte v
@[simp] theorem State.setDe_de (s : State) (v : Word) : (s.setDe v).de = v := wordOf_hiByte_loByte v
@[simp] theorem State.setBc_bc (s : State) (v : Word) : (s.setBc v).bc = v := wordOf_hiByte_loByte v
@[simp] theorem State.setHl_de (s : State) (v : Word) : (s.setHl v).de = s.de := rfl
@[simp] theorem State.setHl_bc (s : State) (v : Word) : (s.setHl v).bc = s.bc := rfl
@[simp] theorem State.setDe_hl (s : State) (v : Word) : (s.setDe v).hl = s.hl := rfl
@[simp] theorem State.setDe_bc (s : State) (v : Word) : (s.setDe v).bc = s.bc := rfl
@[simp] theorem State.setBc_hl (s : State) (v : Word) : (s.setBc v).hl = s.hl := rfl
@[simp] theorem State.setBc_de (s : State) (v : Word) : (s.setBc v).de = s.de := rfl

/-- A pair written reads back, and the other pairs keep their values. -/
theorem rdPair_wrPair (p q : Pair) (v : Word) (s : State) : rdPair q (wrPair p v s) = if q = p then v else rdPair q s := by
  cases p <;> cases q <;> simp [rdPair, wrPair] <;> rfl

/-! ## Calling, interrupts, returning -/

theorem callTo_eq_next {ret target : Word} {s t : State} (h : callTo ret target s = .next t) :
    ∃ u, push16 ret s = .next u ∧ t = u.setPc target := by
  obtain ⟨u, hu, ht⟩ := andThen_eq_next_iff.mp h
  exact ⟨u, hu, by simpa using ht.symm⟩

theorem interruptEntry_eq_next {vector : Word} {s t : State} (h : interruptEntry vector s = .next t) :
    ∃ u, push16 s.pc s = .next u ∧ t = ((u.setPc vector).setIe false).setHalt false := by
  obtain ⟨u, hu, ht⟩ := andThen_eq_next_iff.mp h
  exact ⟨u, hu, by simpa using ht.symm⟩

/-- Everything a request can do. -/
theorem interrupt_cases (n : Nat) (s : State) :
    (7 < n ∧ interrupt n s = .refused (.vectorOutOfRange n)) ∨
      (n ≤ 7 ∧ s.ie = false ∧ interrupt n s = .next s) ∨
      (n ≤ 7 ∧ s.ie = true ∧ interrupt n s = interruptEntry (BitVec.ofNat 16 n <<< 3) s) := by
  unfold interrupt
  split
  · exact .inl ⟨‹_›, rfl⟩
  · cases h : s.ie
    · exact .inr (.inl ⟨by omega, rfl, rfl⟩)
    · exact .inr (.inr ⟨by omega, rfl, rfl⟩)

/-! ## The step -/

/-- A boundary without moves. -/
theorem boundary_of_empty {s : State} (h : s.schedule = []) : boundary s = .next s := by
  simp [boundary, h]

theorem step_of_empty {s : State} (h : s.schedule = []) : step s = coreStep s := by
  simp [step, boundaryThenStep, boundary_of_empty h]

theorem coreStep_of_halted {s : State} (h : s.halt = true) : coreStep s = .next s := by
  simp [coreStep, h]

theorem coreStep_of_running {s : State} (h : s.halt = false) : coreStep s = exec (fetch s) (beforeHandler (fetch s) s) := by
  simp [coreStep, h]

/-- Step 4 of the step, field by field. -/
theorem activate_eq (s : State) : activate s = { s with ie := s.ie || s.pend, pend := false } := by
  obtain ⟨_, _, _, _, _, pend, _, _, _, _, _⟩ := s
  cases pend <;> simp [activate, State.setIe, State.setPend]

end Sys2Proof.Machine
end

