-- ==== Sys2Proof/Laws/Exec.lean ====
section
/-! SUPPORT. Case analysis by the patterns of the encoding tables (spec/30_encoding.md R87 to R90) in place of the 256 rows, and
`exec` on each pattern as the shared operation its constructors' meanings call: a statement about every instruction is proved
once per pattern, over the operation. -/

namespace Sys2Proof

/-- What holds of every pattern, and of every instruction outside them, holds of every instruction. -/
theorem Instr.byPattern {P : Instr → Prop}
    (mov : ∀ dst src, P (movInstr dst src)) (mvi : ∀ dst d8, P (mviInstr dst d8)) (lxi : ∀ p d16, P (lxiInstr p d16))
    (alu : ∀ op src, P (aluInstr op src)) (aluImm : ∀ op d8, P (aluImmInstr op d8))
    (inr : ∀ dst, P (inrInstr dst)) (dcr : ∀ dst, P (dcrInstr dst))
    (inx : ∀ p, P (inxInstr p)) (dcx : ∀ p, P (dcxInstr p)) (dad : ∀ p, P (dadInstr p))
    (push : ∀ p, P (pushInstr p)) (pop : ∀ p, P (popInstr p))
    (jcc : ∀ cond a16, P (jccInstr cond a16)) (ccc : ∀ cond a16, P (cccInstr cond a16)) (rcc : ∀ cond, P (rccInstr cond))
    (rst : ∀ n, P (rstInstr n))
    (nop : P .nop) (staxB : P .staxB) (rlc : P .rlc) (illegal08 : P .illegal08) (ldaxB : P .ldaxB) (rrc : P .rrc)
    (illegal10 : P .illegal10) (staxD : P .staxD) (ral : P .ral) (illegal18 : P .illegal18) (ldaxD : P .ldaxD)
    (rar : P .rar) (illegal20 : P .illegal20) (shld : ∀ v, P (.shld v)) (daa : P .daa) (illegal28 : P .illegal28)
    (lhld : ∀ v, P (.lhld v)) (cma : P .cma) (illegal30 : P .illegal30) (sta : ∀ v, P (.sta v)) (stc : P .stc)
    (illegal38 : P .illegal38) (lda : ∀ v, P (.lda v)) (cmc : P .cmc) (jmp : ∀ v, P (.jmp v)) (ret : P .ret)
    (illegalCB : P .illegalCB) (call : ∀ v, P (.call v)) (out : ∀ v, P (.out v)) (illegalD9 : P .illegalD9)
    (inp : ∀ v, P (.inp v)) (illegalDD : P .illegalDD) (xthl : P .xthl) (pchl : P .pchl) (xchg : P .xchg)
    (illegalED : P .illegalED) (di : P .di) (sphl : P .sphl) (ei : P .ei) (illegalFD : P .illegalFD)
    (i : Instr) : P i :=
  match i with
  | .nop => nop
  | .lxiB d16 => lxi .bc d16
  | .staxB => staxB
  | .inxB => inx .bc
  | .inrB => inr .b
  | .dcrB => dcr .b
  | .mviB d8 => mvi .b d8
  | .rlc => rlc
  | .illegal08 => illegal08
  | .dadB => dad .bc
  | .ldaxB => ldaxB
  | .dcxB => dcx .bc
  | .inrC => inr .c
  | .dcrC => dcr .c
  | .mviC d8 => mvi .c d8
  | .rrc => rrc
  | .illegal10 => illegal10
  | .lxiD d16 => lxi .de d16
  | .staxD => staxD
  | .inxD => inx .de
  | .inrD => inr .d
  | .dcrD => dcr .d
  | .mviD d8 => mvi .d d8
  | .ral => ral
  | .illegal18 => illegal18
  | .dadD => dad .de
  | .ldaxD => ldaxD
  | .dcxD => dcx .de
  | .inrE => inr .e
  | .dcrE => dcr .e
  | .mviE d8 => mvi .e d8
  | .rar => rar
  | .illegal20 => illegal20
  | .lxiH d16 => lxi .hl d16
  | .shld a16 => shld a16
  | .inxH => inx .hl
  | .inrH => inr .h
  | .dcrH => dcr .h
  | .mviH d8 => mvi .h d8
  | .daa => daa
  | .illegal28 => illegal28
  | .dadH => dad .hl
  | .lhld a16 => lhld a16
  | .dcxH => dcx .hl
  | .inrL => inr .l
  | .dcrL => dcr .l
  | .mviL d8 => mvi .l d8
  | .cma => cma
  | .illegal30 => illegal30
  | .lxiSP d16 => lxi .sp d16
  | .sta a16 => sta a16
  | .inxSP => inx .sp
  | .inrM => inr .m
  | .dcrM => dcr .m
  | .mviM d8 => mvi .m d8
  | .stc => stc
  | .illegal38 => illegal38
  | .dadSP => dad .sp
  | .lda a16 => lda a16
  | .dcxSP => dcx .sp
  | .inrA => inr .a
  | .dcrA => dcr .a
  | .mviA d8 => mvi .a d8
  | .cmc => cmc
  | .movBB => mov .b .b
  | .movBC => mov .b .c
  | .movBD => mov .b .d
  | .movBE => mov .b .e
  | .movBH => mov .b .h
  | .movBL => mov .b .l
  | .movBM => mov .b .m
  | .movBA => mov .b .a
  | .movCB => mov .c .b
  | .movCC => mov .c .c
  | .movCD => mov .c .d
  | .movCE => mov .c .e
  | .movCH => mov .c .h
  | .movCL => mov .c .l
  | .movCM => mov .c .m
  | .movCA => mov .c .a
  | .movDB => mov .d .b
  | .movDC => mov .d .c
  | .movDD => mov .d .d
  | .movDE => mov .d .e
  | .movDH => mov .d .h
  | .movDL => mov .d .l
  | .movDM => mov .d .m
  | .movDA => mov .d .a
  | .movEB => mov .e .b
  | .movEC => mov .e .c
  | .movED => mov .e .d
  | .movEE => mov .e .e
  | .movEH => mov .e .h
  | .movEL => mov .e .l
  | .movEM => mov .e .m
  | .movEA => mov .e .a
  | .movHB => mov .h .b
  | .movHC => mov .h .c
  | .movHD => mov .h .d
  | .movHE => mov .h .e
  | .movHH => mov .h .h
  | .movHL => mov .h .l
  | .movHM => mov .h .m
  | .movHA => mov .h .a
  | .movLB => mov .l .b
  | .movLC => mov .l .c
  | .movLD => mov .l .d
  | .movLE => mov .l .e
  | .movLH => mov .l .h
  | .movLL => mov .l .l
  | .movLM => mov .l .m
  | .movLA => mov .l .a
  | .movMB => mov .m .b
  | .movMC => mov .m .c
  | .movMD => mov .m .d
  | .movME => mov .m .e
  | .movMH => mov .m .h
  | .movML => mov .m .l
  | .hlt => mov .m .m
  | .movMA => mov .m .a
  | .movAB => mov .a .b
  | .movAC => mov .a .c
  | .movAD => mov .a .d
  | .movAE => mov .a .e
  | .movAH => mov .a .h
  | .movAL => mov .a .l
  | .movAM => mov .a .m
  | .movAA => mov .a .a
  | .addB => alu .add .b
  | .addC => alu .add .c
  | .addD => alu .add .d
  | .addE => alu .add .e
  | .addH => alu .add .h
  | .addL => alu .add .l
  | .addM => alu .add .m
  | .addA => alu .add .a
  | .adcB => alu .adc .b
  | .adcC => alu .adc .c
  | .adcD => alu .adc .d
  | .adcE => alu .adc .e
  | .adcH => alu .adc .h
  | .adcL => alu .adc .l
  | .adcM => alu .adc .m
  | .adcA => alu .adc .a
  | .subB => alu .sub .b
  | .subC => alu .sub .c
  | .subD => alu .sub .d
  | .subE => alu .sub .e
  | .subH => alu .sub .h
  | .subL => alu .sub .l
  | .subM => alu .sub .m
  | .subA => alu .sub .a
  | .sbbB => alu .sbb .b
  | .sbbC => alu .sbb .c
  | .sbbD => alu .sbb .d
  | .sbbE => alu .sbb .e
  | .sbbH => alu .sbb .h
  | .sbbL => alu .sbb .l
  | .sbbM => alu .sbb .m
  | .sbbA => alu .sbb .a
  | .anaB => alu .ana .b
  | .anaC => alu .ana .c
  | .anaD => alu .ana .d
  | .anaE => alu .ana .e
  | .anaH => alu .ana .h
  | .anaL => alu .ana .l
  | .anaM => alu .ana .m
  | .anaA => alu .ana .a
  | .xraB => alu .xra .b
  | .xraC => alu .xra .c
  | .xraD => alu .xra .d
  | .xraE => alu .xra .e
  | .xraH => alu .xra .h
  | .xraL => alu .xra .l
  | .xraM => alu .xra .m
  | .xraA => alu .xra .a
  | .oraB => alu .ora .b
  | .oraC => alu .ora .c
  | .oraD => alu .ora .d
  | .oraE => alu .ora .e
  | .oraH => alu .ora .h
  | .oraL => alu .ora .l
  | .oraM => alu .ora .m
  | .oraA => alu .ora .a
  | .cmpB => alu .cmp .b
  | .cmpC => alu .cmp .c
  | .cmpD => alu .cmp .d
  | .cmpE => alu .cmp .e
  | .cmpH => alu .cmp .h
  | .cmpL => alu .cmp .l
  | .cmpM => alu .cmp .m
  | .cmpA => alu .cmp .a
  | .rnz => rcc .nz
  | .popB => pop .bc
  | .jnz a16 => jcc .nz a16
  | .jmp a16 => jmp a16
  | .cnz a16 => ccc .nz a16
  | .pushB => push .bc
  | .adi d8 => aluImm .add d8
  | .rst0 => rst 0
  | .rz => rcc .z
  | .ret => ret
  | .jz a16 => jcc .z a16
  | .illegalCB => illegalCB
  | .cz a16 => ccc .z a16
  | .call a16 => call a16
  | .aci d8 => aluImm .adc d8
  | .rst1 => rst 1
  | .rnc => rcc .nc
  | .popD => pop .de
  | .jnc a16 => jcc .nc a16
  | .out d8 => out d8
  | .cnc a16 => ccc .nc a16
  | .pushD => push .de
  | .sui d8 => aluImm .sub d8
  | .rst2 => rst 2
  | .rc => rcc .c
  | .illegalD9 => illegalD9
  | .jc a16 => jcc .c a16
  | .inp d8 => inp d8
  | .cc a16 => ccc .c a16
  | .illegalDD => illegalDD
  | .sbi d8 => aluImm .sbb d8
  | .rst3 => rst 3
  | .rpo => rcc .po
  | .popH => pop .hl
  | .jpo a16 => jcc .po a16
  | .xthl => xthl
  | .cpo a16 => ccc .po a16
  | .pushH => push .hl
  | .ani d8 => aluImm .ana d8
  | .rst4 => rst 4
  | .rpe => rcc .pe
  | .pchl => pchl
  | .jpe a16 => jcc .pe a16
  | .xchg => xchg
  | .cpe a16 => ccc .pe a16
  | .illegalED => illegalED
  | .xri d8 => aluImm .xra d8
  | .rst5 => rst 5
  | .rp => rcc .p
  | .popPSW => pop .psw
  | .jp a16 => jcc .p a16
  | .di => di
  | .cp a16 => ccc .p a16
  | .pushPSW => push .psw
  | .ori d8 => aluImm .ora d8
  | .rst6 => rst 6
  | .rm => rcc .m
  | .sphl => sphl
  | .jm a16 => jcc .m a16
  | .ei => ei
  | .cm a16 => ccc .m a16
  | .illegalFD => illegalFD
  | .cpi d8 => aluImm .cmp d8
  | .rst7 => rst 7

end Sys2Proof

namespace Sys2Proof.Machine

variable (s : State)

theorem exec_mov (dst src : Sel) (h : dst ≠ .m ∨ src ≠ .m) : exec (movInstr dst src) s = movOp dst src s := by
  cases dst <;> cases src <;> first | rfl | simp at h

theorem exec_mvi (dst : Sel) (d8 : Byte) : exec (mviInstr dst d8) s = mviOp dst d8 s := by cases dst <;> rfl
theorem exec_lxi (p : Pair) (d16 : Word) : exec (lxiInstr p d16) s = lxiOp p d16 s := by cases p <;> rfl
theorem exec_add (src : Sel) : exec (aluInstr .add src) s = aluAdd (rdOp src s) false 1 s := by cases src <;> rfl
theorem exec_adc (src : Sel) : exec (aluInstr .adc src) s = aluAdd (rdOp src s) s.flags.cy 1 s := by cases src <;> rfl
theorem exec_sub (src : Sel) : exec (aluInstr .sub src) s = aluSub (rdOp src s) false 1 s := by cases src <;> rfl
theorem exec_sbb (src : Sel) : exec (aluInstr .sbb src) s = aluSub (rdOp src s) s.flags.cy 1 s := by cases src <;> rfl
theorem exec_ana (src : Sel) : exec (aluInstr .ana src) s = aluLogic and8 (rdOp src s) 1 s := by cases src <;> rfl
theorem exec_xra (src : Sel) : exec (aluInstr .xra src) s = aluLogic xor8 (rdOp src s) 1 s := by cases src <;> rfl
theorem exec_ora (src : Sel) : exec (aluInstr .ora src) s = aluLogic or8 (rdOp src s) 1 s := by cases src <;> rfl
theorem exec_cmp (src : Sel) : exec (aluInstr .cmp src) s = aluCompare (rdOp src s) 1 s := by cases src <;> rfl
theorem exec_inr (dst : Sel) : exec (inrInstr dst) s = incOp dst s := by cases dst <;> rfl
theorem exec_dcr (dst : Sel) : exec (dcrInstr dst) s = decOp dst s := by cases dst <;> rfl
theorem exec_inx (p : Pair) : exec (inxInstr p) s = inxOp p s := by cases p <;> rfl
theorem exec_dcx (p : Pair) : exec (dcxInstr p) s = dcxOp p s := by cases p <;> rfl
theorem exec_dad (p : Pair) : exec (dadInstr p) s = dadOp p s := by cases p <;> rfl
theorem exec_push (p : StackPair) : exec (pushInstr p) s = pushOp p s := by cases p <;> rfl
theorem exec_pop (p : StackPair) : exec (popInstr p) s = popOp p s := by cases p <;> rfl
theorem exec_jcc (cond : Cond) (a16 : Word) : exec (jccInstr cond a16) s = jumpIf cond a16 s := by cases cond <;> rfl
theorem exec_ccc (cond : Cond) (a16 : Word) : exec (cccInstr cond a16) s = callIf cond a16 s := by cases cond <;> rfl
theorem exec_rcc (cond : Cond) : exec (rccInstr cond) s = returnIf cond s := by cases cond <;> rfl

theorem exec_rst (n : BitVec 3) : exec (rstInstr n) s = rstOp n s := by
  obtain ⟨n, hn⟩ := n
  change n < 8 at hn
  interval_cases n <;> rfl

end Sys2Proof.Machine
end

