-- ==== Sys2Proof/Laws/Flags.lean ====
section
/-! SUPPORT. What the flag computations answer, in the words of the statements: carries and borrows as comparisons of numbers. -/

namespace Sys2Proof.Machine

/-- The two ways of counting ones agree. -/
theorem onesCount_eq_setBits (v : Byte) : onesCount v = setBits v := by
  simp only [onesCount, setBits, List.range, List.range.loop, List.countP, List.countP.go]
  cases v.getLsbD 0 <;> cases v.getLsbD 1 <;> cases v.getLsbD 2 <;> cases v.getLsbD 3 <;> cases v.getLsbD 4 <;>
    cases v.getLsbD 5 <;> cases v.getLsbD 6 <;> cases v.getLsbD 7 <;> rfl

/-- The result flags of a byte are those of 10_state.md R27. -/
theorem szp_resultFlags (v : Byte) (f : Flags) : ResultFlags v (szp v f) := by
  refine ⟨?_, rfl, ?_⟩
  · simp [szp]
  · simp [szp, evenParity, onesCount_eq_setBits]

@[simp] theorem szp_ac (v : Byte) (f : Flags) : (szp v f).ac = f.ac := rfl
@[simp] theorem szp_cy (v : Byte) (f : Flags) : (szp v f).cy = f.cy := rfl
@[simp] theorem widenedFlags_cy (a b : Byte) (t : Nat) : (widenedFlags a b t).cy = t.testBit 8 := rfl
@[simp] theorem widenedFlags_ac (a b : Byte) (t : Nat) :
    (widenedFlags a b t).ac = (a.toNat ^^^ b.toNat ^^^ t).testBit 4 := rfl

/-- Bit `k` of a number, by division. -/
theorem testBit_iff_mod (x k : Nat) : x.testBit k = true ↔ x / 2 ^ k % 2 = 1 := by
  simp [Nat.testBit_eq_decide_div_mod_eq]

/-- Carry out of bit 7 (41_arithmetic.md R130). -/
theorem add8_cy (a b : Byte) (c : Bool) : (add8 a b c).2.cy = true ↔ 256 ≤ a.toNat + b.toNat + c.toNat := by
  have ha := a.isLt
  have hb := b.isLt
  have hc := c.toNat_le
  simp only [add8, widenedFlags_cy, testBit_iff_mod]
  omega

/-- Bit `k` of a sum with carry is the bits' sum without it, exactly when nothing comes out of the bits below. -/
theorem xor_add_testBit_four (x y c : Nat) :
    (x ^^^ y ^^^ (x + y + c)).testBit 4 = true ↔ (x % 16 + y % 16 + c) / 16 % 2 = 1 := by
  simp only [Nat.testBit_xor]
  simp only [Nat.testBit_eq_decide_div_mod_eq]
  rcases Nat.mod_two_eq_zero_or_one (x / 16) with hx | hx <;> rcases Nat.mod_two_eq_zero_or_one (y / 16) with hy | hy <;>
    simp [hx, hy] <;> omega

/-- Carry out of bit 3 (41_arithmetic.md R130). -/
theorem add8_ac (a b : Byte) (c : Bool) :
    (add8 a b c).2.ac = true ↔ 16 ≤ a.toNat % 16 + b.toNat % 16 + c.toNat := by
  have hc := c.toNat_le
  simp only [add8, widenedFlags_ac, xor_add_testBit_four]
  omega

/-- The difference, and both borrows (41_arithmetic.md R130). -/
theorem sub8_value (a b : Byte) (c : Bool) : (sub8 a b c).1 = a - b - BitVec.ofNat 8 c.toNat := by
  have ha := a.isLt
  have hb := b.isLt
  have hc := c.toNat_le
  apply BitVec.eq_of_toNat_eq
  simp only [sub8, BitVec.toNat_ofNat, BitVec.toNat_sub]
  omega

theorem sub8_cy (a b : Byte) (c : Bool) : (sub8 a b c).2.cy = true ↔ a.toNat < b.toNat + c.toNat := by
  have ha := a.isLt
  have hb := b.isLt
  have hc := c.toNat_le
  simp only [sub8, widenedFlags_cy, testBit_iff_mod]
  omega

theorem sub8_ac (a b : Byte) (c : Bool) :
    (sub8 a b c).2.ac = true ↔ a.toNat % 16 < b.toNat % 16 + c.toNat := by
  have ha := a.isLt
  have hb := b.isLt
  have hc := c.toNat_le
  simp only [sub8, widenedFlags_ac, Nat.testBit_xor]
  simp only [Nat.testBit_eq_decide_div_mod_eq]
  rcases Nat.mod_two_eq_zero_or_one (a.toNat / 16) with hx | hx <;>
    rcases Nat.mod_two_eq_zero_or_one (b.toNat / 16) with hy | hy <;> simp [hx, hy] <;> omega

theorem add8_resultFlags (a b : Byte) (c : Bool) : ResultFlags (add8 a b c).1 (add8 a b c).2 := szp_resultFlags _ _

theorem sub8_resultFlags (a b : Byte) (c : Bool) : ResultFlags (sub8 a b c).1 (sub8 a b c).2 := szp_resultFlags _ _

/-- `INR`: the value, Carry kept, AuxCarry (41_arithmetic.md R139). -/
theorem inc8_spec (v : Byte) (f : Flags) :
    (inc8 v f).1 = v + 1 ∧ (inc8 v f).2.cy = f.cy ∧ ((inc8 v f).2.ac = true ↔ v.toNat % 16 = 15) ∧
      ResultFlags (v + 1) (inc8 v f).2 := by
  have h : (inc8 v f).1 = v + 1 := by
    apply BitVec.eq_of_toNat_eq
    simp [inc8]
  refine ⟨h, rfl, ?_, h ▸ szp_resultFlags _ _⟩
  have := xor_add_testBit_four v.toNat 1 0
  simp only [inc8, szp_ac]
  rw [show v.toNat + 1 = v.toNat + 1 + 0 from rfl, this]
  omega

/-- `DCR`: the value, Carry kept, AuxCarry the borrow (41_arithmetic.md R140). -/
theorem dec8_spec (v : Byte) (f : Flags) :
    (dec8 v f).1 = v - 1 ∧ (dec8 v f).2.cy = f.cy ∧ ((dec8 v f).2.ac = true ↔ v.toNat % 16 = 0) ∧
      ResultFlags (v - 1) (dec8 v f).2 := by
  have hv := v.isLt
  have h : (dec8 v f).1 = v - 1 := by
    apply BitVec.eq_of_toNat_eq
    have h1 : (1 : Byte).toNat = 1 := rfl
    simp only [dec8, BitVec.toNat_ofNat, BitVec.toNat_sub, h1]
    omega
  refine ⟨h, rfl, ?_, h ▸ szp_resultFlags _ _⟩
  simp only [dec8, szp_ac, Nat.testBit_xor]
  simp only [Nat.testBit_eq_decide_div_mod_eq]
  rcases Nat.mod_two_eq_zero_or_one (v.toNat / 16) with hx | hx <;> simp [hx] <;> omega

/-- Unpacking a packed byte gives the flags back (10_state.md R29). -/
theorem unpack_pack (f : Flags) : unpack (pack f) = f := by
  obtain ⟨s, z, ac, p, cy⟩ := f
  cases s <;> cases z <;> cases ac <;> cases p <;> cases cy <;> rfl

/-! ## Rotates, bit by bit (42_logical_rotate.md R170 to R173) -/

/-- Bit `k` of a concatenation, at whatever width it is seen. -/
theorem append_bit {n m : Nat} (x : BitVec n) (y : BitVec m) (k : Nat) :
    (x ++ y).getLsbD k = if k < m then y.getLsbD k else x.getLsbD (k - m) := by
  rw [BitVec.getLsbD_append]

theorem rotLeft_bit (a : Byte) {k : Nat} (hk : k < 8) : (rotLeft a).1.getLsbD k = a.getLsbD ((k + 7) % 8) := by
  refine (append_bit (a.extractLsb' 0 7) (a.extractLsb' 7 1) k).trans ?_
  interval_cases k <;> simp

theorem rotRight_bit (a : Byte) {k : Nat} (hk : k < 8) : (rotRight a).1.getLsbD k = a.getLsbD ((k + 1) % 8) := by
  refine (append_bit (a.extractLsb' 0 1) (a.extractLsb' 1 7) k).trans ?_
  interval_cases k <;> simp

theorem rotLeftCarry_bit (a : Byte) (cy : Bool) {k : Nat} (hk : k < 8) :
    (rotLeftCarry a cy).1.getLsbD k = if k = 0 then cy else a.getLsbD (k - 1) := by
  refine (append_bit (a.extractLsb' 0 7) (BitVec.ofBool cy) k).trans ?_
  interval_cases k <;> simp

theorem rotRightCarry_bit (a : Byte) (cy : Bool) {k : Nat} (hk : k < 8) :
    (rotRightCarry a cy).1.getLsbD k = if k = 7 then cy else a.getLsbD (k + 1) := by
  refine (append_bit (BitVec.ofBool cy) (a.extractLsb' 1 7) k).trans ?_
  interval_cases k <;> simp

end Sys2Proof.Machine
end

