-- ==== Sys2Proof/Laws/PerInstr.lean ====
section
/-! SUPPORT. Facts about every instruction as syntax, one lemma per constructor. The family `OpcodeRow`: the length of the
encoding is the one the opcode byte alone gives (spec/30_encoding.md R80, R81), and the ill-formed terms are exactly those whose
opcode byte is in `IllegalSet` (R92). -/

namespace Sys2Proof.Laws.OpcodeRow

/-- What holds of every row of the opcode table. -/
def Statement (i : Instr) : Prop :=
  (encode i).length = lengthOf (opcodeOf i) ∧ (i.wellFormed = !decide (opcodeOf i ∈ illegalSet))

/-- A row from its opcode byte and its length, each read off the encoding. -/
theorem of_row (i : Instr) (op : Byte) (n : Nat) (hop : opcodeOf i = op) (hlen : (encode i).length = n)
    (hn : lengthOf op = n) (hwf : i.wellFormed = !decide (op ∈ illegalSet)) : Statement i :=
  ⟨by rw [hlen, hop, hn], by rw [hop, hwf]⟩

theorem nop : Statement .nop := of_row _ 0x00 1 rfl rfl rfl rfl
theorem lxiB (d16 : Word) : Statement (.lxiB d16) := of_row _ 0x01 3 rfl rfl rfl rfl
theorem staxB : Statement .staxB := of_row _ 0x02 1 rfl rfl rfl rfl
theorem inxB : Statement .inxB := of_row _ 0x03 1 rfl rfl rfl rfl
theorem inrB : Statement .inrB := of_row _ 0x04 1 rfl rfl rfl rfl
theorem dcrB : Statement .dcrB := of_row _ 0x05 1 rfl rfl rfl rfl
theorem mviB (d8 : Byte) : Statement (.mviB d8) := of_row _ 0x06 2 rfl rfl rfl rfl
theorem rlc : Statement .rlc := of_row _ 0x07 1 rfl rfl rfl rfl
theorem illegal08 : Statement .illegal08 := of_row _ 0x08 1 rfl rfl rfl rfl
theorem dadB : Statement .dadB := of_row _ 0x09 1 rfl rfl rfl rfl
theorem ldaxB : Statement .ldaxB := of_row _ 0x0A 1 rfl rfl rfl rfl
theorem dcxB : Statement .dcxB := of_row _ 0x0B 1 rfl rfl rfl rfl
theorem inrC : Statement .inrC := of_row _ 0x0C 1 rfl rfl rfl rfl
theorem dcrC : Statement .dcrC := of_row _ 0x0D 1 rfl rfl rfl rfl
theorem mviC (d8 : Byte) : Statement (.mviC d8) := of_row _ 0x0E 2 rfl rfl rfl rfl
theorem rrc : Statement .rrc := of_row _ 0x0F 1 rfl rfl rfl rfl
theorem illegal10 : Statement .illegal10 := of_row _ 0x10 1 rfl rfl rfl rfl
theorem lxiD (d16 : Word) : Statement (.lxiD d16) := of_row _ 0x11 3 rfl rfl rfl rfl
theorem staxD : Statement .staxD := of_row _ 0x12 1 rfl rfl rfl rfl
theorem inxD : Statement .inxD := of_row _ 0x13 1 rfl rfl rfl rfl
theorem inrD : Statement .inrD := of_row _ 0x14 1 rfl rfl rfl rfl
theorem dcrD : Statement .dcrD := of_row _ 0x15 1 rfl rfl rfl rfl
theorem mviD (d8 : Byte) : Statement (.mviD d8) := of_row _ 0x16 2 rfl rfl rfl rfl
theorem ral : Statement .ral := of_row _ 0x17 1 rfl rfl rfl rfl
theorem illegal18 : Statement .illegal18 := of_row _ 0x18 1 rfl rfl rfl rfl
theorem dadD : Statement .dadD := of_row _ 0x19 1 rfl rfl rfl rfl
theorem ldaxD : Statement .ldaxD := of_row _ 0x1A 1 rfl rfl rfl rfl
theorem dcxD : Statement .dcxD := of_row _ 0x1B 1 rfl rfl rfl rfl
theorem inrE : Statement .inrE := of_row _ 0x1C 1 rfl rfl rfl rfl
theorem dcrE : Statement .dcrE := of_row _ 0x1D 1 rfl rfl rfl rfl
theorem mviE (d8 : Byte) : Statement (.mviE d8) := of_row _ 0x1E 2 rfl rfl rfl rfl
theorem rar : Statement .rar := of_row _ 0x1F 1 rfl rfl rfl rfl
theorem illegal20 : Statement .illegal20 := of_row _ 0x20 1 rfl rfl rfl rfl
theorem lxiH (d16 : Word) : Statement (.lxiH d16) := of_row _ 0x21 3 rfl rfl rfl rfl
theorem shld (a16 : Word) : Statement (.shld a16) := of_row _ 0x22 3 rfl rfl rfl rfl
theorem inxH : Statement .inxH := of_row _ 0x23 1 rfl rfl rfl rfl
theorem inrH : Statement .inrH := of_row _ 0x24 1 rfl rfl rfl rfl
theorem dcrH : Statement .dcrH := of_row _ 0x25 1 rfl rfl rfl rfl
theorem mviH (d8 : Byte) : Statement (.mviH d8) := of_row _ 0x26 2 rfl rfl rfl rfl
theorem daa : Statement .daa := of_row _ 0x27 1 rfl rfl rfl rfl
theorem illegal28 : Statement .illegal28 := of_row _ 0x28 1 rfl rfl rfl rfl
theorem dadH : Statement .dadH := of_row _ 0x29 1 rfl rfl rfl rfl
theorem lhld (a16 : Word) : Statement (.lhld a16) := of_row _ 0x2A 3 rfl rfl rfl rfl
theorem dcxH : Statement .dcxH := of_row _ 0x2B 1 rfl rfl rfl rfl
theorem inrL : Statement .inrL := of_row _ 0x2C 1 rfl rfl rfl rfl
theorem dcrL : Statement .dcrL := of_row _ 0x2D 1 rfl rfl rfl rfl
theorem mviL (d8 : Byte) : Statement (.mviL d8) := of_row _ 0x2E 2 rfl rfl rfl rfl
theorem cma : Statement .cma := of_row _ 0x2F 1 rfl rfl rfl rfl
theorem illegal30 : Statement .illegal30 := of_row _ 0x30 1 rfl rfl rfl rfl
theorem lxiSP (d16 : Word) : Statement (.lxiSP d16) := of_row _ 0x31 3 rfl rfl rfl rfl
theorem sta (a16 : Word) : Statement (.sta a16) := of_row _ 0x32 3 rfl rfl rfl rfl
theorem inxSP : Statement .inxSP := of_row _ 0x33 1 rfl rfl rfl rfl
theorem inrM : Statement .inrM := of_row _ 0x34 1 rfl rfl rfl rfl
theorem dcrM : Statement .dcrM := of_row _ 0x35 1 rfl rfl rfl rfl
theorem mviM (d8 : Byte) : Statement (.mviM d8) := of_row _ 0x36 2 rfl rfl rfl rfl
theorem stc : Statement .stc := of_row _ 0x37 1 rfl rfl rfl rfl
theorem illegal38 : Statement .illegal38 := of_row _ 0x38 1 rfl rfl rfl rfl
theorem dadSP : Statement .dadSP := of_row _ 0x39 1 rfl rfl rfl rfl
theorem lda (a16 : Word) : Statement (.lda a16) := of_row _ 0x3A 3 rfl rfl rfl rfl
theorem dcxSP : Statement .dcxSP := of_row _ 0x3B 1 rfl rfl rfl rfl
theorem inrA : Statement .inrA := of_row _ 0x3C 1 rfl rfl rfl rfl
theorem dcrA : Statement .dcrA := of_row _ 0x3D 1 rfl rfl rfl rfl
theorem mviA (d8 : Byte) : Statement (.mviA d8) := of_row _ 0x3E 2 rfl rfl rfl rfl
theorem cmc : Statement .cmc := of_row _ 0x3F 1 rfl rfl rfl rfl
theorem movBB : Statement .movBB := of_row _ 0x40 1 rfl rfl rfl rfl
theorem movBC : Statement .movBC := of_row _ 0x41 1 rfl rfl rfl rfl
theorem movBD : Statement .movBD := of_row _ 0x42 1 rfl rfl rfl rfl
theorem movBE : Statement .movBE := of_row _ 0x43 1 rfl rfl rfl rfl
theorem movBH : Statement .movBH := of_row _ 0x44 1 rfl rfl rfl rfl
theorem movBL : Statement .movBL := of_row _ 0x45 1 rfl rfl rfl rfl
theorem movBM : Statement .movBM := of_row _ 0x46 1 rfl rfl rfl rfl
theorem movBA : Statement .movBA := of_row _ 0x47 1 rfl rfl rfl rfl
theorem movCB : Statement .movCB := of_row _ 0x48 1 rfl rfl rfl rfl
theorem movCC : Statement .movCC := of_row _ 0x49 1 rfl rfl rfl rfl
theorem movCD : Statement .movCD := of_row _ 0x4A 1 rfl rfl rfl rfl
theorem movCE : Statement .movCE := of_row _ 0x4B 1 rfl rfl rfl rfl
theorem movCH : Statement .movCH := of_row _ 0x4C 1 rfl rfl rfl rfl
theorem movCL : Statement .movCL := of_row _ 0x4D 1 rfl rfl rfl rfl
theorem movCM : Statement .movCM := of_row _ 0x4E 1 rfl rfl rfl rfl
theorem movCA : Statement .movCA := of_row _ 0x4F 1 rfl rfl rfl rfl
theorem movDB : Statement .movDB := of_row _ 0x50 1 rfl rfl rfl rfl
theorem movDC : Statement .movDC := of_row _ 0x51 1 rfl rfl rfl rfl
theorem movDD : Statement .movDD := of_row _ 0x52 1 rfl rfl rfl rfl
theorem movDE : Statement .movDE := of_row _ 0x53 1 rfl rfl rfl rfl
theorem movDH : Statement .movDH := of_row _ 0x54 1 rfl rfl rfl rfl
theorem movDL : Statement .movDL := of_row _ 0x55 1 rfl rfl rfl rfl
theorem movDM : Statement .movDM := of_row _ 0x56 1 rfl rfl rfl rfl
theorem movDA : Statement .movDA := of_row _ 0x57 1 rfl rfl rfl rfl
theorem movEB : Statement .movEB := of_row _ 0x58 1 rfl rfl rfl rfl
theorem movEC : Statement .movEC := of_row _ 0x59 1 rfl rfl rfl rfl
theorem movED : Statement .movED := of_row _ 0x5A 1 rfl rfl rfl rfl
theorem movEE : Statement .movEE := of_row _ 0x5B 1 rfl rfl rfl rfl
theorem movEH : Statement .movEH := of_row _ 0x5C 1 rfl rfl rfl rfl
theorem movEL : Statement .movEL := of_row _ 0x5D 1 rfl rfl rfl rfl
theorem movEM : Statement .movEM := of_row _ 0x5E 1 rfl rfl rfl rfl
theorem movEA : Statement .movEA := of_row _ 0x5F 1 rfl rfl rfl rfl
theorem movHB : Statement .movHB := of_row _ 0x60 1 rfl rfl rfl rfl
theorem movHC : Statement .movHC := of_row _ 0x61 1 rfl rfl rfl rfl
theorem movHD : Statement .movHD := of_row _ 0x62 1 rfl rfl rfl rfl
theorem movHE : Statement .movHE := of_row _ 0x63 1 rfl rfl rfl rfl
theorem movHH : Statement .movHH := of_row _ 0x64 1 rfl rfl rfl rfl
theorem movHL : Statement .movHL := of_row _ 0x65 1 rfl rfl rfl rfl
theorem movHM : Statement .movHM := of_row _ 0x66 1 rfl rfl rfl rfl
theorem movHA : Statement .movHA := of_row _ 0x67 1 rfl rfl rfl rfl
theorem movLB : Statement .movLB := of_row _ 0x68 1 rfl rfl rfl rfl
theorem movLC : Statement .movLC := of_row _ 0x69 1 rfl rfl rfl rfl
theorem movLD : Statement .movLD := of_row _ 0x6A 1 rfl rfl rfl rfl
theorem movLE : Statement .movLE := of_row _ 0x6B 1 rfl rfl rfl rfl
theorem movLH : Statement .movLH := of_row _ 0x6C 1 rfl rfl rfl rfl
theorem movLL : Statement .movLL := of_row _ 0x6D 1 rfl rfl rfl rfl
theorem movLM : Statement .movLM := of_row _ 0x6E 1 rfl rfl rfl rfl
theorem movLA : Statement .movLA := of_row _ 0x6F 1 rfl rfl rfl rfl
theorem movMB : Statement .movMB := of_row _ 0x70 1 rfl rfl rfl rfl
theorem movMC : Statement .movMC := of_row _ 0x71 1 rfl rfl rfl rfl
theorem movMD : Statement .movMD := of_row _ 0x72 1 rfl rfl rfl rfl
theorem movME : Statement .movME := of_row _ 0x73 1 rfl rfl rfl rfl
theorem movMH : Statement .movMH := of_row _ 0x74 1 rfl rfl rfl rfl
theorem movML : Statement .movML := of_row _ 0x75 1 rfl rfl rfl rfl
theorem hlt : Statement .hlt := of_row _ 0x76 1 rfl rfl rfl rfl
theorem movMA : Statement .movMA := of_row _ 0x77 1 rfl rfl rfl rfl
theorem movAB : Statement .movAB := of_row _ 0x78 1 rfl rfl rfl rfl
theorem movAC : Statement .movAC := of_row _ 0x79 1 rfl rfl rfl rfl
theorem movAD : Statement .movAD := of_row _ 0x7A 1 rfl rfl rfl rfl
theorem movAE : Statement .movAE := of_row _ 0x7B 1 rfl rfl rfl rfl
theorem movAH : Statement .movAH := of_row _ 0x7C 1 rfl rfl rfl rfl
theorem movAL : Statement .movAL := of_row _ 0x7D 1 rfl rfl rfl rfl
theorem movAM : Statement .movAM := of_row _ 0x7E 1 rfl rfl rfl rfl
theorem movAA : Statement .movAA := of_row _ 0x7F 1 rfl rfl rfl rfl
theorem addB : Statement .addB := of_row _ 0x80 1 rfl rfl rfl rfl
theorem addC : Statement .addC := of_row _ 0x81 1 rfl rfl rfl rfl
theorem addD : Statement .addD := of_row _ 0x82 1 rfl rfl rfl rfl
theorem addE : Statement .addE := of_row _ 0x83 1 rfl rfl rfl rfl
theorem addH : Statement .addH := of_row _ 0x84 1 rfl rfl rfl rfl
theorem addL : Statement .addL := of_row _ 0x85 1 rfl rfl rfl rfl
theorem addM : Statement .addM := of_row _ 0x86 1 rfl rfl rfl rfl
theorem addA : Statement .addA := of_row _ 0x87 1 rfl rfl rfl rfl
theorem adcB : Statement .adcB := of_row _ 0x88 1 rfl rfl rfl rfl
theorem adcC : Statement .adcC := of_row _ 0x89 1 rfl rfl rfl rfl
theorem adcD : Statement .adcD := of_row _ 0x8A 1 rfl rfl rfl rfl
theorem adcE : Statement .adcE := of_row _ 0x8B 1 rfl rfl rfl rfl
theorem adcH : Statement .adcH := of_row _ 0x8C 1 rfl rfl rfl rfl
theorem adcL : Statement .adcL := of_row _ 0x8D 1 rfl rfl rfl rfl
theorem adcM : Statement .adcM := of_row _ 0x8E 1 rfl rfl rfl rfl
theorem adcA : Statement .adcA := of_row _ 0x8F 1 rfl rfl rfl rfl
theorem subB : Statement .subB := of_row _ 0x90 1 rfl rfl rfl rfl
theorem subC : Statement .subC := of_row _ 0x91 1 rfl rfl rfl rfl
theorem subD : Statement .subD := of_row _ 0x92 1 rfl rfl rfl rfl
theorem subE : Statement .subE := of_row _ 0x93 1 rfl rfl rfl rfl
theorem subH : Statement .subH := of_row _ 0x94 1 rfl rfl rfl rfl
theorem subL : Statement .subL := of_row _ 0x95 1 rfl rfl rfl rfl
theorem subM : Statement .subM := of_row _ 0x96 1 rfl rfl rfl rfl
theorem subA : Statement .subA := of_row _ 0x97 1 rfl rfl rfl rfl
theorem sbbB : Statement .sbbB := of_row _ 0x98 1 rfl rfl rfl rfl
theorem sbbC : Statement .sbbC := of_row _ 0x99 1 rfl rfl rfl rfl
theorem sbbD : Statement .sbbD := of_row _ 0x9A 1 rfl rfl rfl rfl
theorem sbbE : Statement .sbbE := of_row _ 0x9B 1 rfl rfl rfl rfl
theorem sbbH : Statement .sbbH := of_row _ 0x9C 1 rfl rfl rfl rfl
theorem sbbL : Statement .sbbL := of_row _ 0x9D 1 rfl rfl rfl rfl
theorem sbbM : Statement .sbbM := of_row _ 0x9E 1 rfl rfl rfl rfl
theorem sbbA : Statement .sbbA := of_row _ 0x9F 1 rfl rfl rfl rfl
theorem anaB : Statement .anaB := of_row _ 0xA0 1 rfl rfl rfl rfl
theorem anaC : Statement .anaC := of_row _ 0xA1 1 rfl rfl rfl rfl
theorem anaD : Statement .anaD := of_row _ 0xA2 1 rfl rfl rfl rfl
theorem anaE : Statement .anaE := of_row _ 0xA3 1 rfl rfl rfl rfl
theorem anaH : Statement .anaH := of_row _ 0xA4 1 rfl rfl rfl rfl
theorem anaL : Statement .anaL := of_row _ 0xA5 1 rfl rfl rfl rfl
theorem anaM : Statement .anaM := of_row _ 0xA6 1 rfl rfl rfl rfl
theorem anaA : Statement .anaA := of_row _ 0xA7 1 rfl rfl rfl rfl
theorem xraB : Statement .xraB := of_row _ 0xA8 1 rfl rfl rfl rfl
theorem xraC : Statement .xraC := of_row _ 0xA9 1 rfl rfl rfl rfl
theorem xraD : Statement .xraD := of_row _ 0xAA 1 rfl rfl rfl rfl
theorem xraE : Statement .xraE := of_row _ 0xAB 1 rfl rfl rfl rfl
theorem xraH : Statement .xraH := of_row _ 0xAC 1 rfl rfl rfl rfl
theorem xraL : Statement .xraL := of_row _ 0xAD 1 rfl rfl rfl rfl
theorem xraM : Statement .xraM := of_row _ 0xAE 1 rfl rfl rfl rfl
theorem xraA : Statement .xraA := of_row _ 0xAF 1 rfl rfl rfl rfl
theorem oraB : Statement .oraB := of_row _ 0xB0 1 rfl rfl rfl rfl
theorem oraC : Statement .oraC := of_row _ 0xB1 1 rfl rfl rfl rfl
theorem oraD : Statement .oraD := of_row _ 0xB2 1 rfl rfl rfl rfl
theorem oraE : Statement .oraE := of_row _ 0xB3 1 rfl rfl rfl rfl
theorem oraH : Statement .oraH := of_row _ 0xB4 1 rfl rfl rfl rfl
theorem oraL : Statement .oraL := of_row _ 0xB5 1 rfl rfl rfl rfl
theorem oraM : Statement .oraM := of_row _ 0xB6 1 rfl rfl rfl rfl
theorem oraA : Statement .oraA := of_row _ 0xB7 1 rfl rfl rfl rfl
theorem cmpB : Statement .cmpB := of_row _ 0xB8 1 rfl rfl rfl rfl
theorem cmpC : Statement .cmpC := of_row _ 0xB9 1 rfl rfl rfl rfl
theorem cmpD : Statement .cmpD := of_row _ 0xBA 1 rfl rfl rfl rfl
theorem cmpE : Statement .cmpE := of_row _ 0xBB 1 rfl rfl rfl rfl
theorem cmpH : Statement .cmpH := of_row _ 0xBC 1 rfl rfl rfl rfl
theorem cmpL : Statement .cmpL := of_row _ 0xBD 1 rfl rfl rfl rfl
theorem cmpM : Statement .cmpM := of_row _ 0xBE 1 rfl rfl rfl rfl
theorem cmpA : Statement .cmpA := of_row _ 0xBF 1 rfl rfl rfl rfl
theorem rnz : Statement .rnz := of_row _ 0xC0 1 rfl rfl rfl rfl
theorem popB : Statement .popB := of_row _ 0xC1 1 rfl rfl rfl rfl
theorem jnz (a16 : Word) : Statement (.jnz a16) := of_row _ 0xC2 3 rfl rfl rfl rfl
theorem jmp (a16 : Word) : Statement (.jmp a16) := of_row _ 0xC3 3 rfl rfl rfl rfl
theorem cnz (a16 : Word) : Statement (.cnz a16) := of_row _ 0xC4 3 rfl rfl rfl rfl
theorem pushB : Statement .pushB := of_row _ 0xC5 1 rfl rfl rfl rfl
theorem adi (d8 : Byte) : Statement (.adi d8) := of_row _ 0xC6 2 rfl rfl rfl rfl
theorem rst0 : Statement .rst0 := of_row _ 0xC7 1 rfl rfl rfl rfl
theorem rz : Statement .rz := of_row _ 0xC8 1 rfl rfl rfl rfl
theorem ret : Statement .ret := of_row _ 0xC9 1 rfl rfl rfl rfl
theorem jz (a16 : Word) : Statement (.jz a16) := of_row _ 0xCA 3 rfl rfl rfl rfl
theorem illegalCB : Statement .illegalCB := of_row _ 0xCB 1 rfl rfl rfl rfl
theorem cz (a16 : Word) : Statement (.cz a16) := of_row _ 0xCC 3 rfl rfl rfl rfl
theorem call (a16 : Word) : Statement (.call a16) := of_row _ 0xCD 3 rfl rfl rfl rfl
theorem aci (d8 : Byte) : Statement (.aci d8) := of_row _ 0xCE 2 rfl rfl rfl rfl
theorem rst1 : Statement .rst1 := of_row _ 0xCF 1 rfl rfl rfl rfl
theorem rnc : Statement .rnc := of_row _ 0xD0 1 rfl rfl rfl rfl
theorem popD : Statement .popD := of_row _ 0xD1 1 rfl rfl rfl rfl
theorem jnc (a16 : Word) : Statement (.jnc a16) := of_row _ 0xD2 3 rfl rfl rfl rfl
theorem out (d8 : Byte) : Statement (.out d8) := of_row _ 0xD3 2 rfl rfl rfl rfl
theorem cnc (a16 : Word) : Statement (.cnc a16) := of_row _ 0xD4 3 rfl rfl rfl rfl
theorem pushD : Statement .pushD := of_row _ 0xD5 1 rfl rfl rfl rfl
theorem sui (d8 : Byte) : Statement (.sui d8) := of_row _ 0xD6 2 rfl rfl rfl rfl
theorem rst2 : Statement .rst2 := of_row _ 0xD7 1 rfl rfl rfl rfl
theorem rc : Statement .rc := of_row _ 0xD8 1 rfl rfl rfl rfl
theorem illegalD9 : Statement .illegalD9 := of_row _ 0xD9 1 rfl rfl rfl rfl
theorem jc (a16 : Word) : Statement (.jc a16) := of_row _ 0xDA 3 rfl rfl rfl rfl
theorem inp (d8 : Byte) : Statement (.inp d8) := of_row _ 0xDB 2 rfl rfl rfl rfl
theorem cc (a16 : Word) : Statement (.cc a16) := of_row _ 0xDC 3 rfl rfl rfl rfl
theorem illegalDD : Statement .illegalDD := of_row _ 0xDD 1 rfl rfl rfl rfl
theorem sbi (d8 : Byte) : Statement (.sbi d8) := of_row _ 0xDE 2 rfl rfl rfl rfl
theorem rst3 : Statement .rst3 := of_row _ 0xDF 1 rfl rfl rfl rfl
theorem rpo : Statement .rpo := of_row _ 0xE0 1 rfl rfl rfl rfl
theorem popH : Statement .popH := of_row _ 0xE1 1 rfl rfl rfl rfl
theorem jpo (a16 : Word) : Statement (.jpo a16) := of_row _ 0xE2 3 rfl rfl rfl rfl
theorem xthl : Statement .xthl := of_row _ 0xE3 1 rfl rfl rfl rfl
theorem cpo (a16 : Word) : Statement (.cpo a16) := of_row _ 0xE4 3 rfl rfl rfl rfl
theorem pushH : Statement .pushH := of_row _ 0xE5 1 rfl rfl rfl rfl
theorem ani (d8 : Byte) : Statement (.ani d8) := of_row _ 0xE6 2 rfl rfl rfl rfl
theorem rst4 : Statement .rst4 := of_row _ 0xE7 1 rfl rfl rfl rfl
theorem rpe : Statement .rpe := of_row _ 0xE8 1 rfl rfl rfl rfl
theorem pchl : Statement .pchl := of_row _ 0xE9 1 rfl rfl rfl rfl
theorem jpe (a16 : Word) : Statement (.jpe a16) := of_row _ 0xEA 3 rfl rfl rfl rfl
theorem xchg : Statement .xchg := of_row _ 0xEB 1 rfl rfl rfl rfl
theorem cpe (a16 : Word) : Statement (.cpe a16) := of_row _ 0xEC 3 rfl rfl rfl rfl
theorem illegalED : Statement .illegalED := of_row _ 0xED 1 rfl rfl rfl rfl
theorem xri (d8 : Byte) : Statement (.xri d8) := of_row _ 0xEE 2 rfl rfl rfl rfl
theorem rst5 : Statement .rst5 := of_row _ 0xEF 1 rfl rfl rfl rfl
theorem rp : Statement .rp := of_row _ 0xF0 1 rfl rfl rfl rfl
theorem popPSW : Statement .popPSW := of_row _ 0xF1 1 rfl rfl rfl rfl
theorem jp (a16 : Word) : Statement (.jp a16) := of_row _ 0xF2 3 rfl rfl rfl rfl
theorem di : Statement .di := of_row _ 0xF3 1 rfl rfl rfl rfl
theorem cp (a16 : Word) : Statement (.cp a16) := of_row _ 0xF4 3 rfl rfl rfl rfl
theorem pushPSW : Statement .pushPSW := of_row _ 0xF5 1 rfl rfl rfl rfl
theorem ori (d8 : Byte) : Statement (.ori d8) := of_row _ 0xF6 2 rfl rfl rfl rfl
theorem rst6 : Statement .rst6 := of_row _ 0xF7 1 rfl rfl rfl rfl
theorem rm : Statement .rm := of_row _ 0xF8 1 rfl rfl rfl rfl
theorem sphl : Statement .sphl := of_row _ 0xF9 1 rfl rfl rfl rfl
theorem jm (a16 : Word) : Statement (.jm a16) := of_row _ 0xFA 3 rfl rfl rfl rfl
theorem ei : Statement .ei := of_row _ 0xFB 1 rfl rfl rfl rfl
theorem cm (a16 : Word) : Statement (.cm a16) := of_row _ 0xFC 3 rfl rfl rfl rfl
theorem illegalFD : Statement .illegalFD := of_row _ 0xFD 1 rfl rfl rfl rfl
theorem cpi (d8 : Byte) : Statement (.cpi d8) := of_row _ 0xFE 2 rfl rfl rfl rfl
theorem rst7 : Statement .rst7 := of_row _ 0xFF 1 rfl rfl rfl rfl

end Sys2Proof.Laws.OpcodeRow
end

