-- ==== Sys2Proof/Laws/Run.lean ====
section
/-! SUPPORT. The driver's moves and the run of a launch: what an event can do, that nothing but `boundary` looks at the state's own
schedule, and the run one boundary at a time. -/

namespace Sys2Proof.Machine

/-! ## The driver's moves -/

@[simp] theorem applyEvents_nil (s : State) : applyEvents [] s = .next s := rfl
@[simp] theorem applyEvents_cons (ev : DriverEvent) (evs : List DriverEvent) (s : State) :
    applyEvents (ev :: evs) s = andThen (applyEvent ev s) (applyEvents evs) := rfl

theorem andThen_assoc (r : Result) (k k' : State → Result) :
    andThen (andThen r k) k' = andThen r fun s => andThen (k s) k' := by
  cases r <;> rfl

theorem applyEvents_append (evs evs' : List DriverEvent) (s : State) :
    applyEvents (evs ++ evs') s = andThen (applyEvents evs s) (applyEvents evs') := by
  induction evs generalizing s with
  | nil => rfl
  | cons ev evs ih =>
    have : (fun t => applyEvents (evs ++ evs') t) = fun t => andThen (applyEvents evs t) (applyEvents evs') := funext ih
    rw [List.cons_append, applyEvents_cons, applyEvents_cons, andThen_assoc, ← this]

/-- Everything a legal event can do: write an input latch, be dropped, or enter an interrupt. -/
theorem applyEvent_of_legal {ev : DriverEvent} (h : ev.legal = true) (s : State) :
    (ev.isInterrupt = false ∧
        ∃ a b, applyEvent ev s = .next (s.setIo { s.io with in1 := a, in2 := b })) ∨
      (ev.isInterrupt = true ∧ s.ie = false ∧ applyEvent ev s = .next s) ∨
      ∃ n, ev = .interrupt n ∧ s.ie = true ∧ applyEvent ev s = interruptEntry (BitVec.ofNat 16 n <<< 3) s := by
  cases ev with
  | reset => simp [DriverEvent.legal] at h
  | input port bit pressed =>
    left
    simp only [DriverEvent.legal, Bool.and_eq_true, Bool.or_eq_true, beq_iff_eq, decide_eq_true_eq] at h
    obtain ⟨rfl | rfl, hb⟩ := h
    · exact ⟨rfl, latchBit s.io.in1 bit pressed, s.io.in2, by simp [applyEvent, handleInput, Nat.not_lt.mpr hb]⟩
    · exact ⟨rfl, s.io.in1, latchBit s.io.in2 bit pressed, by simp [applyEvent, handleInput, Nat.not_lt.mpr hb]⟩
  | interrupt n =>
    right
    simp only [DriverEvent.legal, decide_eq_true_eq] at h
    rcases interrupt_cases n s with ⟨hn, -⟩ | ⟨-, hie, he⟩ | ⟨-, hie, he⟩
    · omega
    · exact .inl ⟨rfl, hie, he⟩
    · exact .inr ⟨n, rfl, hie, he⟩

/-! ## The run, one boundary at a time -/

@[simp] theorem Launch.before_zero (x : Launch) : x.before 0 = .next x.start := rfl

theorem Launch.before_succ (x : Launch) (k : Nat) : x.before (k + 1) = andThen (x.stateAt k) coreStep := rfl

theorem Launch.stateAt_zero (x : Launch) : x.stateAt 0 = applyEvents (x.events 0) x.start := rfl

theorem Launch.stateAt_succ (x : Launch) (k : Nat) :
    x.stateAt (k + 1) = andThen (andThen (x.stateAt k) coreStep) (applyEvents (x.events (k + 1))) := rfl

/-- A run that stands at a state has stood at one before. -/
theorem Launch.stateAt_succ_eq_next {x : Launch} {k : Nat} {t : State} (h : x.stateAt (k + 1) = .next t) :
    ∃ s u, x.stateAt k = .next s ∧ coreStep s = .next u ∧ applyEvents (x.events (k + 1)) u = .next t := by
  obtain ⟨u, hu, ht⟩ := andThen_eq_next_iff.mp h
  obtain ⟨s, hs, hsu⟩ := andThen_eq_next_iff.mp hu
  exact ⟨s, u, hs, hsu, ht⟩

/-! ## The schedule is read by `boundary` alone -/

/-- The same outcome with another schedule in the state it carries. -/
def reschedule (q : List (List DriverEvent)) : Result → Result
  | .next s => .next (s.setSchedule q)
  | .fault (.illegalOpcode pc0 op left) => .fault (.illegalOpcode pc0 op (left.setSchedule q))
  | .fault (.protectedWrite addr range left) => .fault (.protectedWrite addr range (left.setSchedule q))
  | .refused r => .refused r

/-- The operation answers the same, whatever the schedule, and passes it on. -/
abbrev IgnoresSchedule (k : State → Result) : Prop := ∀ s q, k (s.setSchedule q) = reschedule q (k s)

theorem andThen_reschedule {q : List (List DriverEvent)} {r : Result} {k k' : State → Result}
    (h : ∀ u, k' (u.setSchedule q) = reschedule q (k u)) : andThen (reschedule q r) k' = reschedule q (andThen r k) := by
  cases r with
  | next u => exact h u
  | fault f => cases f <;> rfl
  | refused r => rfl

theorem memWrite_ignoresSchedule (addr : Word) (v : Byte) : IgnoresSchedule (memWrite addr v) := by
  intro s q
  rcases memWrite_cases addr v s with ⟨h, e⟩ | ⟨r, h, e⟩
  · rw [e]; exact memWrite_of_unprotected (s := s.setSchedule q) h v
  · rw [e]; exact memWrite_of_firstHolder (s := s.setSchedule q) h v

theorem wrOp_ignoresSchedule (sel : Sel) (v : Byte) : IgnoresSchedule (wrOp sel v) := by
  intro s q
  cases sel <;> first | rfl | exact memWrite_ignoresSchedule _ _ _ _

theorem rdOp_setSchedule (sel : Sel) (s : State) (q : List (List DriverEvent)) : rdOp sel (s.setSchedule q) = rdOp sel s := by
  cases sel <;> rfl

/-- A store, and then an operation that ignores the schedule too. -/
theorem memWrite_andThen_ignoresSchedule {addr : Word} {v : Byte} {k k' : State → Result} {s : State}
    {q : List (List DriverEvent)} (h : ∀ u, k' (u.setSchedule q) = reschedule q (k u)) :
    andThen (memWrite addr v (s.setSchedule q)) k' = reschedule q (andThen (memWrite addr v s) k) := by
  rw [memWrite_ignoresSchedule]
  exact andThen_reschedule h

theorem push16_ignoresSchedule (v : Word) : IgnoresSchedule (push16 v) := fun _ _ =>
  memWrite_andThen_ignoresSchedule fun _ => memWrite_andThen_ignoresSchedule fun _ => rfl

/-- A push, and then an operation that ignores the schedule too. -/
theorem push16_andThen_ignoresSchedule {v : Word} {k k' : State → Result} {s : State}
    {q : List (List DriverEvent)} (h : ∀ u, k' (u.setSchedule q) = reschedule q (k u)) :
    andThen (push16 v (s.setSchedule q)) k' = reschedule q (andThen (push16 v s) k) := by
  rw [push16_ignoresSchedule]
  exact andThen_reschedule h

theorem callTo_ignoresSchedule (ret target : Word) : IgnoresSchedule (callTo ret target) := fun _ _ =>
  push16_andThen_ignoresSchedule fun _ => rfl

theorem exec_ignoresSchedule (i : Instr) : IgnoresSchedule (exec i) := by
  cases i using Instr.byPattern
  case mov dst src =>
    intro s q
    by_cases h : dst ≠ .m ∨ src ≠ .m
    · rw [exec_mov _ _ _ h, exec_mov _ _ _ h, movOp, movOp, rdOp_setSchedule, wrOp_ignoresSchedule]
      exact andThen_reschedule fun _ => rfl
    · obtain ⟨rfl, rfl⟩ : dst = .m ∧ src = .m := by simpa using h
      rfl
  case mvi dst d8 =>
    intro s q
    rw [exec_mvi, exec_mvi, mviOp, mviOp, wrOp_ignoresSchedule]
    exact andThen_reschedule fun _ => rfl
  case lxi p d16 => intro s q; cases p <;> rfl
  case alu op src =>
    intro s q
    cases op <;>
      simp only [exec_add, exec_adc, exec_sub, exec_sbb, exec_ana, exec_xra, exec_ora, exec_cmp, rdOp_setSchedule] <;> rfl
  case aluImm op d8 => intro s q; cases op <;> rfl
  case inr dst =>
    intro s q
    rw [exec_inr, exec_inr, incOp, incOp, rdOp_setSchedule, wrOp_ignoresSchedule]
    exact andThen_reschedule fun _ => rfl
  case dcr dst =>
    intro s q
    rw [exec_dcr, exec_dcr, decOp, decOp, rdOp_setSchedule, wrOp_ignoresSchedule]
    exact andThen_reschedule fun _ => rfl
  case inx p => intro s q; cases p <;> rfl
  case dcx p => intro s q; cases p <;> rfl
  case dad p => intro s q; cases p <;> rfl
  case push p =>
    intro s q
    rw [exec_push, exec_push]
    cases p <;> exact push16_andThen_ignoresSchedule fun _ => rfl
  case pop p => intro s q; cases p <;> rfl
  case jcc cond a16 =>
    intro s q
    rw [exec_jcc, exec_jcc]
    cases h : condHolds cond s.flags <;> simp [jumpIf, h, reschedule] <;> rfl
  case ccc cond a16 =>
    intro s q
    rw [exec_ccc, exec_ccc]
    cases h : condHolds cond s.flags
    · simp [callIf, h, reschedule]; rfl
    · simp only [callIf, State.setSchedule_flags, State.setSchedule_pc, h, if_true]
      exact callTo_ignoresSchedule _ _ s q
  case rcc cond =>
    intro s q
    rw [exec_rcc, exec_rcc]
    cases h : condHolds cond s.flags <;> simp [returnIf, h, reschedule] <;> rfl
  case rst n =>
    intro s q
    rw [exec_rst, exec_rst]
    exact callTo_ignoresSchedule _ _ s q
  case call a16 => intro s q; exact callTo_ignoresSchedule _ _ s q
  case staxB => intro s q; exact memWrite_andThen_ignoresSchedule fun _ => rfl
  case staxD => intro s q; exact memWrite_andThen_ignoresSchedule fun _ => rfl
  case sta a16 => intro s q; exact memWrite_andThen_ignoresSchedule fun _ => rfl
  case shld a16 =>
    intro s q
    exact memWrite_andThen_ignoresSchedule fun _ => memWrite_andThen_ignoresSchedule fun _ => rfl
  case xthl =>
    intro s q
    exact memWrite_andThen_ignoresSchedule fun _ => memWrite_andThen_ignoresSchedule fun _ => rfl
  all_goals (intro s q; rfl)

theorem coreStep_ignoresSchedule : IgnoresSchedule coreStep := by
  intro s q
  cases h : s.halt
  · rw [coreStep_of_running h, coreStep_of_running (s := s.setSchedule q) h, ← exec_ignoresSchedule]
    have : beforeHandler (fetch s) (s.setSchedule q) = (beforeHandler (fetch s) s).setSchedule q := by
      unfold beforeHandler
      split
      · rw [activate_eq, activate_eq]; rfl
      · rfl
    exact congrArg (exec (fetch s)) this
  · rw [coreStep_of_halted h, coreStep_of_halted (s := s.setSchedule q) h]; rfl

theorem applyEvent_ignoresSchedule (ev : DriverEvent) : IgnoresSchedule (applyEvent ev) := by
  intro s q
  cases ev with
  | reset => rfl
  | input port bit pressed =>
    simp only [applyEvent, handleInput]
    split
    · rfl
    · split
      · rfl
      · split <;> rfl
  | interrupt n =>
    by_cases hn : 7 < n
    · simp [applyEvent, interrupt, hn, reschedule]
    · cases hie : s.ie
      · simp [applyEvent, interrupt, hn, hie, reschedule]
      · simp only [applyEvent, interrupt, hn, hie, State.setSchedule_ie, if_true, if_false]
        exact push16_andThen_ignoresSchedule fun _ => rfl

theorem applyEvents_ignoresSchedule (evs : List DriverEvent) : IgnoresSchedule (applyEvents evs) := by
  induction evs with
  | nil => intro s q; rfl
  | cons ev evs ih =>
    intro s q
    rw [applyEvents_cons, applyEvents_cons, applyEvent_ignoresSchedule]
    exact andThen_reschedule fun u => ih u q

end Sys2Proof.Machine
end

