-- ==== Sys2Proof/Tests/Slice0.lean ====
section
/-! SUPPORT. Tests of the model against the spec: the well-formedness smoke test, the decoding of every row of the opcode grid
(spec/30_encoding.md R91), the spec's worked examples (spec/95_test_vectors.md and the Example lines of the instruction rules),
and, for every statement with hypotheses, a concrete state that meets them. -/

open Sys2Proof Sys2Proof.Machine Sys2Proof.Claims

/-- Byte `v` stored at an address, whatever is protected. -/
def Sys2Proof.Machine.State.withByte (s : State) (addr : Word) (v : Byte) : State :=
  s.setMem (Memory.put s.mem addr.toNat v)

namespace Sys2Proof.Tests

/-! ## Helpers -/

/-- The reset state with bytes from an address on and `PC` there. -/
def coded (addr : Word) (bytes : List Byte) : State :=
  { State.reset with pc := addr, mem := placeBytes bytes addr [] }

/-- What `f` says of the next state, if there is one. -/
def after {α : Type} (r : Result) (f : State → α) : Option α :=
  match r with
  | .next t => some (f t)
  | .fault _ => none
  | .refused _ => none

/-- The instruction a list of bytes starts with. -/
def decoded (bytes : List Byte) : Option Instr :=
  match decode bytes with
  | .ok (i, _) => some i
  | .error _ => none

/-- Decode sixteen consecutive opcode values, each followed by the bytes 0x34 and 0x12. -/
def decodedRow (first : Nat) : List (Option Instr) :=
  (List.range 16).map fun k => decoded [BitVec.ofNat 8 (first + k), 0x34, 0x12]

/-! ## Well-formedness (Sys2Proof/WellFormed.lean has one check) -/

theorem test_wellFormed_refuses_an_illegal_row : Instr.wellFormed .illegalCB = false := by decide
theorem test_wellFormed_refuses_every_illegal_row :
    [Instr.illegal08, .illegal10, .illegal18, .illegal20, .illegal28, .illegal30, .illegal38, .illegalCB, .illegalD9,
      .illegalDD, .illegalED, .illegalFD].all (fun i => !i.wellFormed) = true := by decide
theorem test_wellFormed_accepts : Instr.wellFormed (.jnz 0x1234) = true := by decide

/-! ## Decoding, row by row of the grid 30_encoding.md R91 -/

theorem test_decode_row_0x : decodedRow 0x00 = [
    some .nop, some (.lxiB 0x1234), some .staxB, some .inxB, some .inrB, some .dcrB, some (.mviB 0x34), some .rlc,
    some .illegal08, some .dadB, some .ldaxB, some .dcxB, some .inrC, some .dcrC, some (.mviC 0x34), some .rrc] := by decide

theorem test_decode_row_1x : decodedRow 0x10 = [
    some .illegal10, some (.lxiD 0x1234), some .staxD, some .inxD, some .inrD, some .dcrD, some (.mviD 0x34), some .ral,
    some .illegal18, some .dadD, some .ldaxD, some .dcxD, some .inrE, some .dcrE, some (.mviE 0x34), some .rar] := by decide

theorem test_decode_row_2x : decodedRow 0x20 = [
    some .illegal20, some (.lxiH 0x1234), some (.shld 0x1234), some .inxH, some .inrH, some .dcrH, some (.mviH 0x34),
    some .daa, some .illegal28, some .dadH, some (.lhld 0x1234), some .dcxH, some .inrL, some .dcrL, some (.mviL 0x34),
    some .cma] := by decide

theorem test_decode_row_3x : decodedRow 0x30 = [
    some .illegal30, some (.lxiSP 0x1234), some (.sta 0x1234), some .inxSP, some .inrM, some .dcrM, some (.mviM 0x34),
    some .stc, some .illegal38, some .dadSP, some (.lda 0x1234), some .dcxSP, some .inrA, some .dcrA, some (.mviA 0x34),
    some .cmc] := by decide

theorem test_decode_row_4x : decodedRow 0x40 = [
    some .movBB, some .movBC, some .movBD, some .movBE, some .movBH, some .movBL, some .movBM, some .movBA, some .movCB,
    some .movCC, some .movCD, some .movCE, some .movCH, some .movCL, some .movCM, some .movCA] := by decide

theorem test_decode_row_5x : decodedRow 0x50 = [
    some .movDB, some .movDC, some .movDD, some .movDE, some .movDH, some .movDL, some .movDM, some .movDA, some .movEB,
    some .movEC, some .movED, some .movEE, some .movEH, some .movEL, some .movEM, some .movEA] := by decide

theorem test_decode_row_6x : decodedRow 0x60 = [
    some .movHB, some .movHC, some .movHD, some .movHE, some .movHH, some .movHL, some .movHM, some .movHA, some .movLB,
    some .movLC, some .movLD, some .movLE, some .movLH, some .movLL, some .movLM, some .movLA] := by decide

theorem test_decode_row_7x : decodedRow 0x70 = [
    some .movMB, some .movMC, some .movMD, some .movME, some .movMH, some .movML, some .hlt, some .movMA, some .movAB,
    some .movAC, some .movAD, some .movAE, some .movAH, some .movAL, some .movAM, some .movAA] := by decide

theorem test_decode_row_8x : decodedRow 0x80 = [
    some .addB, some .addC, some .addD, some .addE, some .addH, some .addL, some .addM, some .addA, some .adcB,
    some .adcC, some .adcD, some .adcE, some .adcH, some .adcL, some .adcM, some .adcA] := by decide

theorem test_decode_row_9x : decodedRow 0x90 = [
    some .subB, some .subC, some .subD, some .subE, some .subH, some .subL, some .subM, some .subA, some .sbbB,
    some .sbbC, some .sbbD, some .sbbE, some .sbbH, some .sbbL, some .sbbM, some .sbbA] := by decide

theorem test_decode_row_Ax : decodedRow 0xA0 = [
    some .anaB, some .anaC, some .anaD, some .anaE, some .anaH, some .anaL, some .anaM, some .anaA, some .xraB,
    some .xraC, some .xraD, some .xraE, some .xraH, some .xraL, some .xraM, some .xraA] := by decide

theorem test_decode_row_Bx : decodedRow 0xB0 = [
    some .oraB, some .oraC, some .oraD, some .oraE, some .oraH, some .oraL, some .oraM, some .oraA, some .cmpB,
    some .cmpC, some .cmpD, some .cmpE, some .cmpH, some .cmpL, some .cmpM, some .cmpA] := by decide

theorem test_decode_row_Cx : decodedRow 0xC0 = [
    some .rnz, some .popB, some (.jnz 0x1234), some (.jmp 0x1234), some (.cnz 0x1234), some .pushB, some (.adi 0x34),
    some .rst0, some .rz, some .ret, some (.jz 0x1234), some .illegalCB, some (.cz 0x1234), some (.call 0x1234),
    some (.aci 0x34), some .rst1] := by decide

theorem test_decode_row_Dx : decodedRow 0xD0 = [
    some .rnc, some .popD, some (.jnc 0x1234), some (.out 0x34), some (.cnc 0x1234), some .pushD, some (.sui 0x34),
    some .rst2, some .rc, some .illegalD9, some (.jc 0x1234), some (.inp 0x34), some (.cc 0x1234), some .illegalDD,
    some (.sbi 0x34), some .rst3] := by decide

theorem test_decode_row_Ex : decodedRow 0xE0 = [
    some .rpo, some .popH, some (.jpo 0x1234), some .xthl, some (.cpo 0x1234), some .pushH, some (.ani 0x34), some .rst4,
    some .rpe, some .pchl, some (.jpe 0x1234), some .xchg, some (.cpe 0x1234), some .illegalED, some (.xri 0x34),
    some .rst5] := by decide

theorem test_decode_row_Fx : decodedRow 0xF0 = [
    some .rp, some .popPSW, some (.jp 0x1234), some .di, some (.cp 0x1234), some .pushPSW, some (.ori 0x34), some .rst6,
    some .rm, some .sphl, some (.jm 0x1234), some .ei, some (.cm 0x1234), some .illegalFD, some (.cpi 0x34), some .rst7] := by decide

theorem test_decode_needs_its_operand : decode [0xC3, 0x34] = .error (.operandMissing 0xC3) := rfl
theorem test_table_word_short : decodeTableWord 8 0xC3 = some (.jmp 0x0000) := by decide
theorem test_table_word_whole : decodeTableWord 24 0x1234C3 = some (.jmp 0x1234) := by decide
theorem test_encode_low_byte_first : encode (.jmp 0x1234) = [0xC3, 0x34, 0x12] := by decide

/-! ## The host's placement -/

theorem test_withFetchWord_runs : after (step (State.reset.withFetchWord 16 0x423E)) (fun t => (t.regs.a, t.pc)) =
    some (0x42, 0x0002) := by decide
theorem test_withFetchWord_halted :
    after (step ({ State.reset with halt := true, schedule := [[.reset]] }.withFetchWord 8 0x3C))
      (fun t => (t.regs.a, t.schedule)) = some (0x01, [[.reset]]) := by decide

/-! ## Worked examples of the source (95_test_vectors.md Part 1) -/

theorem test_S1_sum : after (steps 3 (coded 0x0000 [0x3E, 0x42, 0x06, 0x08, 0x80]))
    (fun t => (t.regs.a, t.flags.cy, t.flags.z, t.pc)) = some (0x4A, false, false, 0x0005) := by decide
theorem test_S1_cycles :
    instrCycles (.mviA 0x42) Flags.reset + instrCycles (.mviB 0x08) Flags.reset + instrCycles .addB Flags.reset = 18 := by
  decide
theorem test_S2_daa : daa8 0x9B Flags.reset = (0x01, { s := false, z := false, ac := true, p := false, cy := true }) := by
  decide
theorem test_S3_shift_register_low : ioRead 3 { IoBus.reset with shh := 0xBB, shl := 0xAA, off := 7 } = 0xD5 := by decide
theorem test_S3_shift_register_high : ioRead 3 { IoBus.reset with shh := 0xBB, shl := 0xAA } = 0xBB := by decide
theorem test_S3_out4_twice : after (steps 3 (coded 0x0000 [0xD3, 0x04, 0x3E, 0xBB, 0xD3, 0x04] |>.setA 0xAA))
    (fun t => (t.io.shh, t.io.shl)) = some (0xBB, 0xAA) := by decide
theorem test_S4_pack_all_set : pack { s := true, z := true, ac := true, p := true, cy := true } = 0xD7 := by decide
theorem test_S5_parity : (evenParity 0x00, evenParity 0xFF, evenParity 0x01, evenParity 0x80) = (true, true, false, false) := by
  decide

/-! ## Data transfer (40_data_transfer.md, Example lines and corner cases) -/

theorem test_mov_h_m : after (exec .movHM (((coded 0x0000 []).setHl 0x2010).withByte 0x2010 0x7B)) (fun t => (t.hl, t.pc)) =
    some (0x7B10, 0x0001) := by decide
theorem test_mov_m_h : after (exec .movMH ((coded 0x0000 []).setHl 0x2010)) (memRead 0x2010) = some 0x20 := by decide
theorem test_mvi_c_wraps : after (step ((coded 0xFFFF [0x0E]).withByte 0x0000 0x77)) (fun t => (t.regs.c, t.pc)) =
    some (0x77, 0x0001) := by decide
theorem test_lxi_b : after (exec (.lxiB 0x1234) State.reset) (fun t => (t.regs.b, t.regs.c)) = some (0x12, 0x34) := by decide
theorem test_lda : after (exec (.lda 0xFFFF) (State.reset.withByte 0xFFFF 0x42)) (fun t => t.regs.a) = some 0x42 := by decide
theorem test_sta : after (exec (.sta 0x2000) (State.reset.setA 0x7F)) (memRead 0x2000) = some 0x7F := by decide
theorem test_lhld_wraps : after (exec (.lhld 0xFFFF) ((State.reset.withByte 0xFFFF 0x11).withByte 0x0000 0x22))
    (fun t => (t.regs.h, t.regs.l)) = some (0x22, 0x11) := by decide
theorem test_shld : after (exec (.shld 0x300A) (State.reset.setHl 0xAE29)) (fun t => (memRead 0x300A t, memRead 0x300B t)) =
    some (0x29, 0xAE) := by decide
theorem test_ldax_d : after (exec .ldaxD ((State.reset.setDe 0x2400).withByte 0x2400 0x3C)) (fun t => t.regs.a) =
    some 0x3C := by decide
theorem test_stax_b : after (exec .staxB ((State.reset.setBc 0x2005).setA 0x11)) (memRead 0x2005) = some 0x11 := by decide
theorem test_xchg : after (exec .xchg ((State.reset.setDe 0x1234).setHl 0xABCD)) (fun t => (t.de, t.hl)) =
    some (0xABCD, 0x1234) := by decide

/-! ## Arithmetic (41_arithmetic.md, Example lines) -/

theorem test_adc : add8 0x42 0x3D true = (0x80, { s := true, z := false, ac := true, p := false, cy := false }) := by decide
theorem test_sub : sub8 0x05 0x0A false = (0xFB, { s := true, z := false, ac := true, p := false, cy := true }) := by decide
theorem test_sbb_borrow : sub8 0x00 0xFF true = (0x00, { s := false, z := true, ac := true, p := true, cy := true }) := by
  decide
theorem test_sbb_a : after (exec .sbbA ((State.reset.setA 0x5D).setFlags { Flags.reset with cy := true }))
    (fun t => (t.regs.a, t.flags)) = some (0xFF, { s := true, z := false, ac := true, p := true, cy := true }) := by decide
theorem test_aci : after (exec (.aci 0xBE) ((State.reset.setA 0x56).setFlags { Flags.reset with cy := true }))
    (fun t => (t.regs.a, t.flags.cy, t.pc)) = some (0x15, true, 0x0002) := by decide
theorem test_sbi : after (exec (.sbi 0x01) ((State.reset.setA 0x00).setFlags { Flags.reset with cy := true }))
    (fun t => (t.regs.a, t.flags.ac)) = some (0xFE, true) := by decide
theorem test_inr_keeps_carry : inc8 0x0F { Flags.reset with cy := true } =
    (0x10, { s := false, z := false, ac := true, p := false, cy := true }) := by decide
theorem test_dcr_wraps : dec8 0x00 Flags.reset = (0xFF, { s := true, z := false, ac := true, p := true, cy := false }) := by
  decide
theorem test_inx_d : after (exec .inxD (State.reset.setDe 0x38FF)) State.de = some 0x3900 := by decide
theorem test_dcx_sp : after (exec .dcxSP State.reset) (fun t => t.sp) = some 0xFFFF := by decide
theorem test_dad_b : after (exec .dadB ((State.reset.setHl 0xA17B).setBc 0x339F)) (fun t => (t.hl, t.flags.cy)) =
    some (0xD51A, false) := by decide
theorem test_dad_keeps_zero : after (exec .dadB ((State.reset.setHl 0xFFFF).setBc 0x0001)) (fun t => (t.hl, t.flags.cy, t.flags.z)) =
    some (0x0000, true, false) := by decide
theorem test_daa_carry_in : daa8 0x66 { Flags.reset with ac := true, cy := true } =
    (0xCC, { s := true, z := false, ac := false, p := true, cy := true }) := by decide

/-! ## Logical and rotate (42_logical_rotate.md, Example lines) -/

theorem test_ana_aux : (and8 0xFC 0x0F, (and8 0xF0 0x07).2.ac) =
    ((0x0C, { s := false, z := false, ac := true, p := true, cy := false }), false) := by decide
theorem test_xra : xor8 0x5C 0x78 = (0x24, { s := false, z := false, ac := false, p := true, cy := false }) := by decide
theorem test_ora : or8 0x33 0x0F = (0x3F, { s := false, z := false, ac := false, p := true, cy := false }) := by decide
theorem test_cmp : after (exec .cmpB ((State.reset.setA 0x02).setB 0x05)) (fun t => (t.regs.a, t.flags)) =
    some (0x02, { s := true, z := false, ac := true, p := false, cy := true }) := by decide
theorem test_rlc_rrc : (rotLeft 0xF2, rotRight 0xF2, rotRight 0x01) = ((0xE5, true), (0x79, false), (0x80, true)) := by decide
theorem test_ral_rar : (rotLeftCarry 0xB5 false, rotRightCarry 0x6A true) = ((0x6A, true), (0xB5, false)) := by decide
theorem test_cma : after (exec .cma (State.reset.setA 0x51)) (fun t => t.regs.a) = some 0xAE := by decide
theorem test_stc_cmc : (after (exec .stc State.reset) (fun t => t.flags.cy), after (exec .cmc State.reset) (fun t => t.flags.cy)) =
    (some true, some true) := by decide

/-! ## Stack and branch (43_stack.md, 44_branch.md, Example lines) -/

theorem test_push_psw : after (exec .pushPSW (((State.reset.setSp 0x2400).setA 0x1F).setFlags
      { s := false, z := true, ac := false, p := true, cy := true }))
    (fun t => (t.sp, memRead 0x23FF t, memRead 0x23FE t)) = some (0x23FE, 0x1F, 0x47) := by decide
theorem test_push_wraps : after (exec .pushH ((State.reset.setSp 0x0001).setHl 0xABCD))
    (fun t => (t.sp, memRead 0x0000 t, memRead 0xFFFF t)) = some (0xFFFF, 0xAB, 0xCD) := by decide
theorem test_pop_psw : after (exec .popPSW (((State.reset.setSp 0x23FE).withByte 0x23FE 0xC3).withByte 0x23FF 0xFF))
    (fun t => (t.regs.a, t.flags, t.sp)) =
      some (0xFF, { s := true, z := true, ac := false, p := false, cy := true }, 0x2400) := by decide
theorem test_pop_d : after (exec .popD (((State.reset.setSp 0x23FE).withByte 0x23FE 0x34).withByte 0x23FF 0x12)) State.de =
    some 0x1234 := by decide
theorem test_xthl : after (exec .xthl ((((State.reset.setSp 0x10AD).setHl 0x0B3C).withByte 0x10AD 0xF0).withByte 0x10AE 0x0D))
    (fun t => (t.hl, memRead 0x10AD t, memRead 0x10AE t, t.sp)) = some (0x0DF0, 0x3C, 0x0B, 0x10AD) := by decide
theorem test_sphl : after (exec .sphl (State.reset.setHl 0x506C)) (fun t => t.sp) = some 0x506C := by decide
theorem test_jnz : (after (step (coded 0x0200 [0xC2, 0x34, 0x12])) (fun t => t.pc),
    after (step ((coded 0x0200 [0xC2, 0x34, 0x12]).setFlags { Flags.reset with z := true })) (fun t => t.pc)) =
      (some 0x1234, some 0x0203) := by decide
theorem test_call_then_ret : after (steps 2 ((coded 0x2000 [0xCD, 0x05, 0x20, 0x00, 0x00, 0xC9]).setSp 0x2400))
    (fun t => (t.pc, t.sp)) = some (0x2003, 0x2400) := by decide
theorem test_rst7_wraps : after (exec .rst7 ((coded 0xFFFF []).setSp 0x2400)) (fun t => (t.pc, memRead 0x23FF t)) =
    some (0x0038, 0x00) := by decide
theorem test_pchl : after (exec .pchl (State.reset.setHl 0x413E)) (fun t => t.pc) = some 0x413E := by decide

/-! ## Input and output, control, interrupts, faults, reset -/

theorem test_out2_masks : after (exec (.out 2) (State.reset.setA 0x0B)) (fun t => t.io.off) = some 3 := by decide
theorem test_in_absent : after (exec (.inp 0xFF) (State.reset.setA 0x99)) (fun t => t.regs.a) = some 0x00 := by decide
theorem test_handleInput : after (handleInput 2 7 true State.reset) (fun t => (t.io.in1, t.io.in2)) = some (0x00, 0x80) := by
  decide
theorem test_ei_then_nop : (after (step (coded 0x0010 [0xFB, 0x00])) (fun t => (t.ie, t.pend)),
    after (steps 2 (coded 0x0010 [0xFB, 0x00])) (fun t => (t.ie, t.pend))) = (some (false, true), some (true, false)) := by
  decide
theorem test_ei_then_di : after (steps 2 (coded 0x0010 [0xFB, 0xF3])) (fun t => (t.ie, t.pend)) = some (false, false) := by
  decide
theorem test_hlt : after (step (coded 0x0010 [0x76])) (fun t => (t.halt, t.pc)) = some (true, 0x0010) := by decide
theorem test_interrupt_while_halted :
    after (interrupt 2 { coded 0x0040 [0x76] with ie := true, halt := true, sp := 0x2400 })
      (fun t => (t.pc, t.sp, t.ie, t.halt, memRead 0x23FE t)) = some (0x0010, 0x23FE, false, false, 0x40) := by decide
theorem test_interrupt_refused : interrupt 8 State.reset = .refused (.vectorOutOfRange 8) := rfl
theorem test_illegal_keeps_pend : step { coded 0x0100 [0x08] with pend := true } =
    .fault (.illegalOpcode 0x0100 0x08 { coded 0x0100 [0x08] with pend := true }) := rfl
theorem test_reset_keeps_memory : after (applyEvent .reset ((coded 0x0040 [0x76]).setA 0x11)) (fun t => (t.regs.a, t.pc, memRead 0x0040 t)) =
    some (0x00, 0x0000, 0x76) := by decide
/-- 95_test_vectors.md S10: an image of 19 bytes protects 0x0000 to 0x0012. -/
theorem test_loader_range : (loadFiles [List.replicate 19 0x00] 0 true [] []).map (fun x => (x.prot, x.cursor)) =
    some ([{ first := 0x0000, last := 0x0012 }], 0x0013) := by decide

/-! ## Witnesses: for every statement with hypotheses, values that meet them -/

/-- A running state with one protected range, all registers zero but `SP`, just above the range plus two. -/
def guarded : State :=
  { coded 0x3000 [0x00] with sp := 0x2002, prot := [{ first := 0x1000, last := 0x1FFF }] }

/-- The range of `guarded`. -/
def guardRange : ProtRange := { first := 0x1000, last := 0x1FFF }

theorem witness_EncodeOfDecodeGivesBytes_f1 : decode [0x80, 0xFF] = .ok (.addB, [0xFF]) := rfl
theorem witness_EncodeOfDecodeGivesBytes_f2 : decode [0x3E, 0xFF] = .ok (.mviA 0xFF, []) := rfl
theorem witness_EncodeOfDecodeGivesBytes_f3 : decode [0xC3, 0xFF, 0x00] = .ok (.jmp 0x00FF, []) := rfl
theorem witness_OpcodeAloneFixesLengthAndLegality_legal :
    decode (0xFF :: []) = .ok (.rst7, []) ∧ decode (0xFF :: [0x01]) = .ok (.rst7, [0x01]) := ⟨rfl, rfl⟩
theorem witness_OpcodeAloneFixesLengthAndLegality_illegal :
    decode (0xFD :: []) = .ok (.illegalFD, []) ∧ decode (0xFD :: [0x01]) = .ok (.illegalFD, [0x01]) := ⟨rfl, rfl⟩
theorem witness_StepRunsTheDecodedInstruction :
    let s := coded 0xFFFF [0x3E, 0x42]
    s.halt = false ∧ s.schedule = [] ∧ Instr.wellFormed (.mviA 0x42) = true ∧
      decode [memRead s.pc s, memRead (s.pc + 1) s, memRead (s.pc + 2) s] = .ok (.mviA 0x42, [0x00]) :=
  ⟨rfl, rfl, rfl, rfl⟩
theorem witness_DriverMovesComeBeforeTheStep_none : (coded 0x0000 [0x00]).schedule = [] := rfl
theorem witness_DriverMovesComeBeforeTheStep_empty :
    State.schedule { State.reset with schedule := [[], [.reset]] } = [] :: [[.reset]] := rfl
theorem witness_DriverMovesComeBeforeTheStep_moves :
    ∃ t, State.schedule { State.reset with schedule := [[.input 1 0 true, .reset]] } = (.input 1 0 true :: [.reset]) :: [] ∧
      applyEvent (.input 1 0 true) { { State.reset with schedule := [[.input 1 0 true, .reset]] } with schedule := [] } =
        .next t := ⟨_, rfl, rfl⟩
theorem witness_HaltedStepChangesNothing :
    State.halt { State.reset with halt := true } = true ∧ State.schedule { State.reset with halt := true } = [] := ⟨rfl, rfl⟩
theorem witness_IllegalOpcodesFaultUnchanged :
    (coded 0x0100 [0xFD]).halt = false ∧ (coded 0x0100 [0xFD]).schedule = [] ∧
      memRead (coded 0x0100 [0xFD]).pc (coded 0x0100 [0xFD]) ∈ illegalSet := by decide
theorem witness_MovAndMviWriteRegisters : Sel.a ≠ .m := by decide
theorem witness_MovAndMviStoreAtHl_above : Unprotected (guarded.setHl 0x2000) (guarded.setHl 0x2000).hl ∧ Sel.h ≠ .m := by
  decide
theorem witness_MovAndMviStoreAtHl_below : Unprotected (guarded.setHl 0x0FFF) (guarded.setHl 0x0FFF).hl := by decide
theorem witness_LxiLoadsPair : Pair.sp ≠ .hl := by decide
theorem witness_StoresWriteMemory_sta : Unprotected guarded 0x2000 := by decide
theorem witness_StoresWriteMemory_staxB : Unprotected (guarded.setBc 0x0FFF) (guarded.setBc 0x0FFF).bc := by decide
theorem witness_StoresWriteMemory_staxD : Unprotected (guarded.setDe 0xFFFF) (guarded.setDe 0xFFFF).de := by decide
theorem witness_StoresWriteMemory_shld : Unprotected guarded 0xFFFF ∧ Unprotected guarded (0xFFFF + 1) := by decide
theorem witness_InrAndDcrOnRegisters : Sel.b ≠ .m := by decide
theorem witness_InrAndDcrOnMemory : Unprotected (guarded.setHl 0x0FFF) (guarded.setHl 0x0FFF).hl := by decide
theorem witness_InxAndDcxCountPairs : Pair.bc ≠ .sp := by decide
theorem witness_DaaAdjustsA_low : 9 < (0x0A : Byte).toNat % 16 := by decide
theorem witness_AdcThenDaaIsDecimalAddition :
    99 < 100 ∧ 0 < 100 ∧ ((State.reset.setA 0x99).setB 0x00).regs.a = bcd 99 ∧
      ((State.reset.setA 0x99).setB 0x00).regs.b = bcd 0 := by decide
theorem witness_ArithmeticRoundTrips_add : ∃ t, exec (aluInstr .add .m) guarded = .next t := ⟨_, rfl⟩
theorem witness_ArithmeticRoundTrips_adi : ∃ t, exec (.adi 0xFF) guarded = .next t := ⟨_, rfl⟩
theorem witness_ArithmeticRoundTrips_inx : ∃ t, exec (inxInstr .sp) (guarded.setSp 0xFFFF) = .next t := ⟨_, rfl⟩
theorem witness_PushStoresPair : Unprotected guarded (guarded.sp - 1) ∧ Unprotected guarded (guarded.sp - 2) := by decide
theorem witness_PushStoresPair_wraps : Unprotected State.reset (State.reset.sp - 1) ∧ Unprotected State.reset (State.reset.sp - 2) := by
  decide
theorem witness_PopLoadsPairOrPsw : StackPair.bc ≠ .psw ∧ StackPair.psw ≠ .bc := by decide
theorem witness_PopUndoesPush : ∃ t, exec (pushInstr .psw) guarded = .next t := ⟨_, rfl⟩
theorem witness_XthlExchangesTop : Unprotected guarded guarded.sp ∧ Unprotected guarded (guarded.sp + 1) := by decide
theorem witness_CallsPushReturnAddress :
    Unprotected guarded (guarded.sp - 1) ∧ Unprotected guarded (guarded.sp - 2) ∧ condHolds .p guarded.flags = true := by
  decide
theorem witness_UntakenCallsAndReturnsFallThrough : condHolds .m guarded.flags = false := by decide
theorem witness_ReturnsPopPc : condHolds .nz guarded.flags = true := by decide
theorem witness_RetUndoesCall : ∃ t, exec (.call 0x0000) guarded = .next t := ⟨_, rfl⟩
theorem witness_InReadsPorts : 7 < 8 ∧ (0xFF : Byte) ≠ 1 ∧ (0xFF : Byte) ≠ 2 ∧ (0xFF : Byte) ≠ 3 := by decide
theorem witness_OutWritesPorts : (0x03 : Byte) ≠ 2 ∧ (0x03 : Byte) ≠ 4 := by decide
theorem witness_OnlyInAndOutSeeTheIoBus :
    ∃ t, Instr.family (.sta 0x2000) ≠ .inp ∧ Instr.family (.sta 0x2000) ≠ .out ∧ exec (.sta 0x2000) guarded = .next t :=
  ⟨_, by decide, by decide, rfl⟩
theorem witness_HandleInputWritesOneBit : 0 ≤ 7 ∧ 7 ≤ 7 ∧ (7 < 8 ∨ (1 ≠ 1 ∧ 1 ≠ 2)) ∧ (7 < 0 ∨ (3 ≠ 1 ∧ 3 ≠ 2)) := by decide
theorem witness_EnableIsOneInstructionLate_ei :
    (coded 0x0000 [0xFB]).halt = false ∧ (coded 0x0000 [0xFB]).schedule = [] ∧ fetch (coded 0x0000 [0xFB]) = .ei := by decide
theorem witness_EnableIsOneInstructionLate_di :
    (coded 0x0000 [0xF3]).halt = false ∧ (coded 0x0000 [0xF3]).schedule = [] ∧ fetch (coded 0x0000 [0xF3]) = .di := by decide
theorem witness_EnableIsOneInstructionLate_next :
    let s := { coded 0x0000 [0x00] with pend := true }
    ∃ t, s.halt = false ∧ s.schedule = [] ∧ step s = .next t ∧ s.pend = true ∧ fetch s ≠ .di ∧ fetch s ≠ .ei :=
  ⟨_, rfl, rfl, rfl, rfl, by decide, by decide⟩
theorem witness_InterruptIsTaken :
    let s := { guarded with ie := true }
    7 ≤ 7 ∧ s.ie = true ∧ Unprotected s (s.sp - 1) ∧ Unprotected s (s.sp - 2) := by decide
theorem witness_InterruptIsDroppedOrRefused : (7 ≤ 7 ∧ State.reset.ie = false) ∧ 7 < 8 := by decide
theorem witness_RetUndoesInterrupt :
    ∃ t, State.ie { guarded with ie := true } = true ∧ interrupt 0 { guarded with ie := true } = .next t ∧ 7 ≤ 7 :=
  ⟨_, rfl, rfl, by decide⟩
theorem witness_ProtectedStoreFaults_last : FirstHolder guarded 0x1FFF guardRange := ⟨[], [], rfl, nofun, rfl⟩
theorem witness_ProtectedStoreFaults_first : FirstHolder guarded 0x1000 guardRange ∧ Sel.a ≠ .m :=
  ⟨⟨[], [], rfl, nofun, rfl⟩, by decide⟩
theorem witness_ProtectedStoreFaults_hl : FirstHolder (guarded.setHl 0x1000) (guarded.setHl 0x1000).hl guardRange :=
  ⟨[], [], rfl, nofun, rfl⟩
theorem witness_ProtectedSecondStoreLeavesFirst_first :
    FirstHolder (guarded.setSp 0x1001) ((guarded.setSp 0x1001).sp - 1) guardRange := ⟨[], [], rfl, nofun, rfl⟩
theorem witness_ProtectedSecondStoreLeavesFirst_second :
    let s := guarded.setSp 0x2001
    Unprotected s (s.sp - 1) ∧ FirstHolder s (s.sp - 2) guardRange ∧ condHolds .nz s.flags = true :=
  ⟨by decide, ⟨[], [], rfl, nofun, rfl⟩, by decide⟩
theorem witness_ProtectedSecondStoreLeavesFirst_up :
    Unprotected guarded 0x0FFF ∧ FirstHolder guarded (0x0FFF + 1) guardRange := ⟨by decide, ⟨[], [], rfl, nofun, rfl⟩⟩
theorem witness_ProtectedSecondStoreLeavesFirst_interrupt :
    let s := { guarded.setSp 0x2001 with ie := true }
    7 ≤ 7 ∧ s.ie = true ∧ Unprotected s (s.sp - 1) ∧ FirstHolder s (s.sp - 2) guardRange :=
  ⟨by decide, rfl, by decide, ⟨[], [], rfl, nofun, rfl⟩⟩
theorem witness_OnlyListedInstructionsFault :
    Instr.wellFormed (.sta 0x1FFF) = true ∧ exec (.sta 0x1FFF) guarded = .fault (.protectedWrite 0x1FFF guardRange guarded) :=
  ⟨rfl, rfl⟩
theorem witness_ResetZeroesAllButMemory : Sel.a ≠ .m := by decide
theorem witness_LoadedImageReadsBack :
    ∃ x, loadFiles [[0x12], [0x34]] 0xFFFE true [] [] = some x ∧ 1 < [[0x12], [(0x34 : Byte)]].flatten.length ∧
      (0xFFFD < 0xFFFE ∨ x.cursor ≤ 0xFFFD) := ⟨_, rfl, by decide, by decide⟩
theorem witness_LoadedImageReadsBack_unprotected :
    ∃ x, loadFiles [[0x12]] 0 false [] [guardRange] = some x ∧ x.cursor ≤ 0x0001 := ⟨_, rfl, by decide⟩
theorem witness_CycleCountsOfTheTable :
    Instr.cmc ∈ [Instr.nop, .rlc, .rrc, .ral, .rar, .daa, .cma, .stc, .cmc, .xchg, .ei, .di] ∧
      Instr.sphl ∈ [Instr.pchl, .sphl] ∧ Instr.hlt ∈ [Instr.staxB, .staxD, .ldaxB, .ldaxD, .hlt] := by decide
theorem witness_FlagsChangeOnlyByTheirWriters :
    ∃ t, exec .pchl guarded = .next t ∧ Instr.family .pchl ∉ resultFlagWriters ∧ Instr.family .pchl ∉ carryWriters ∧
      Instr.family .pchl ∉ auxWriters := ⟨_, rfl, by decide, by decide, by decide⟩
theorem witness_StateChangesOnlyByItsWriters :
    ∃ t, exec .pchl guarded = .next t ∧ Instr.writesMem .pchl = false ∧ Instr.writesSp .pchl = false ∧
      Instr.family .pchl ≠ .out ∧ Instr.family .pchl ≠ .di ∧ Instr.family .pchl ≠ .ei ∧ Instr.family .pchl ≠ .hlt :=
  ⟨_, rfl, by decide, by decide, by decide, by decide, by decide, by decide⟩
theorem witness_EveryStepKeepsTheInvariant :
    let s := { (coded 0x3000 [0xFB]).withByte 0x2000 0x55 with prot := [guardRange] }
    ∃ t, s.Inv ∧ step s = .next t := ⟨_, by decide, rfl⟩
theorem witness_ProtectedBytesNeverChange :
    ∃ t, step guarded = .next t ∧ guardRange ∈ guarded.prot ∧ guardRange.holds 0x1FFF = true := ⟨_, rfl, by decide, by decide⟩
theorem witness_EndedRunStaysEnded :
    let s := { State.reset with halt := true, ie := true, schedule := [[.input 1 0 true]] }
    ∃ t, s.Ended ∧ (∀ evs ∈ s.schedule, ∀ ev ∈ evs, ev.isReset = false) ∧ step s = .next t := ⟨_, by decide, by decide, rfl⟩
theorem witness_EndedRunStaysEnded_disabled :
    let s := { State.reset with halt := true, schedule := [[.interrupt 7]] }
    ∃ t, s.Ended ∧ (∀ evs ∈ s.schedule, ∀ ev ∈ evs, ev.isReset = false) ∧ step s = .next t := ⟨_, by decide, by decide, rfl⟩
theorem witness_RunOfALaunchAndItsEnd_walk :
    ∃ u, 2 ≤ 2 ∧ steps 2 (Launch.startWith ⟨[], [], fun k => [.input 1 k true]⟩ 2) = .next u := ⟨_, by decide, rfl⟩

/-- A launch of `HLT` with the same events at every boundary, and so at infinitely many. -/
def haltedLaunch (evs : List DriverEvent) : Launch := ⟨[(0x0000, 0x76)], [], fun _ => evs⟩

/-- Its end state. -/
def haltedState (in1 : Byte) : State :=
  { (haltedLaunch []).start with halt := true, io := { IoBus.reset with in1 := in1 } }

theorem haltedLaunch_interrupts_before (j : Nat) :
    (haltedLaunch [.interrupt 7]).before (j + 1) = .next (haltedState 0x00) := by
  induction j with
  | zero => rfl
  | succ j ih =>
    change andThen (andThen ((haltedLaunch [.interrupt 7]).before (j + 1)) (applyEvents [.interrupt 7])) coreStep = _
    rw [ih]
    rfl

theorem haltedLaunch_interrupts_accepts_none (j : Nat) : ¬(haltedLaunch [.interrupt 7]).AcceptsAt (j + 1) := by
  rintro ⟨earlier, n, later, t, hev, ht, hie⟩
  obtain rfl : earlier = [] := by
    cases earlier with
    | nil => rfl
    | cons _ _ => simp [haltedLaunch] at hev
  rw [haltedLaunch_interrupts_before] at ht
  cases ht
  exact absurd hie (by decide)

/-- An interrupt request at every boundary, none accepted: the run ends at boundary 1. -/
theorem witness_RunOfALaunchAndItsEnd_end :
    (haltedLaunch [.interrupt 7]).Legal ∧ (haltedLaunch [.interrupt 7]).EndsAt 1 (haltedState 0x00) := by
  refine ⟨fun _ => show ∀ ev ∈ [DriverEvent.interrupt 7], ev.legal = true by decide, ⟨rfl, rfl, fun j hj => ?_⟩, fun m t hm => ?_⟩
  · obtain ⟨j, rfl⟩ : ∃ i, j = i + 1 := ⟨j - 1, by omega⟩
    exact haltedLaunch_interrupts_accepts_none j
  · cases m with
    | zero => cases hm.1; exact absurd hm.2.1 (by decide)
    | succ m => omega

/-- An input event at every boundary: the run stands at `HLT` at boundary 0 and right after it at boundary 1. -/
theorem witness_RunOfALaunchAndItsEnd_first_hlt :
    let x := haltedLaunch [.input 1 0 true]
    let r := (haltedLaunch []).start.setIo { IoBus.reset with in1 := 0x01 }
    x.Legal ∧ (∀ j, ∀ ev ∈ x.events j, ev.isInterrupt = false) ∧ x.stateAt 0 = .next r ∧ r.halt = false ∧
      fetch r = .hlt ∧ x.stateAt (0 + 1) = .next (haltedState 0x01) :=
  ⟨fun _ => show ∀ ev ∈ [DriverEvent.input 1 0 true], ev.legal = true by decide,
    fun _ => show ∀ ev ∈ [DriverEvent.input 1 0 true], ev.isInterrupt = false by decide, rfl, rfl, rfl, rfl⟩

/-- 70_reset_and_hazards.md R287: the end state has `PC` at the `HLT`; the interrupt of 60_exceptions.md R255 resumes a halted
run, so it has not ended. -/
theorem test_run_resumed_by_an_interrupt :
    let x : Launch := ⟨placeBytes [0xFB, 0x76] 0x0000 [], [], fun k => if k = 2 ∨ k = 3 then [.interrupt 2] else []⟩
    (after (x.before 2) (fun t => (t.pc, t.halt, t.ie)), after (x.stateAt 2) (fun t => (t.pc, t.halt, t.ie)),
      after (x.stateAt 3) (fun t => (t.pc, t.sp))) =
      (some (0x0001, true, true), some (0x0010, false, false), some (0x0011, 0xFFFE)) := by decide

end Sys2Proof.Tests
end

section
/-! PROOFS. What a handler can do, said once: which fields of the state it leaves alone, what it stores, and which flags it
writes (spec/10_state.md R30, R34; spec/20_memory.md R53). Every invariant over all instructions is a case analysis of
`exec_effect`. -/

namespace Sys2Proof.Machine

/-! ## What a result ensures -/

/-- If `r` is a next state, it has the property `P`. -/
def Ensures (r : Result) (P : State → Prop) : Prop := ∀ t, r = .next t → P t

@[simp] theorem ensures_next {s : State} {P : State → Prop} : Ensures (.next s) P ↔ P s := by simp [Ensures]

@[simp] theorem ensures_fault (f : Fault) (P : State → Prop) : Ensures (.fault f) P := by simp [Ensures]

theorem ensures_andThen {r : Result} {k : State → Result} {P : State → Prop} :
    Ensures (andThen r k) P ↔ Ensures r fun u => Ensures (k u) P := by
  simp only [Ensures, andThen_eq_next_iff]
  exact ⟨fun h u hu t ht => h t ⟨u, hu, ht⟩, fun h t ⟨u, hu, ht⟩ => h u hu t ht⟩

theorem Ensures.mono {r : Result} {P Q : State → Prop} (h : Ensures r P) (hPQ : ∀ t, P t → Q t) : Ensures r Q :=
  fun t ht => hPQ t (h t ht)

/-! ## Frames of a handler -/

/-- The memories that stores at addresses no protected range holds can make of the memory of `s` (20_memory.md R53, R54). -/
inductive StoresOf (s : State) : Memory → Prop where
  | same : StoresOf s s.mem
  | store {m : Memory} (h : StoresOf s m) {addr : Word} (hu : Unprotected s addr) (v : Byte) :
      StoresOf s (Memory.put m addr.toNat v)

/-- Stores keep the canonical form. -/
theorem StoresOf.wf {s : State} {m : Memory} (h : StoresOf s m) (hs : Memory.wf s.mem = true) : Memory.wf m = true := by
  induction h with
  | same => exact hs
  | store _ _ _ ih => exact Memory.put_wf ih _ _

theorem StoresOf.trans {s u : State} (hp : u.prot = s.prot) (hu : StoresOf s u.mem) {m : Memory} (h : StoresOf u m) :
    StoresOf s m := by
  induction h with
  | same => exact hu
  | store _ hx v ih => exact ih.store (by simpa [Unprotected, hp] using hx) v

/-- From `s` to `t`, memory changed by unprotected stores alone, and no latch, port, protected range or scheduled move did. -/
structure Frame (s t : State) : Prop where
  mem : StoresOf s t.mem
  control : ControlKept s t

/-- A frame in which the flags are unchanged too. -/
structure QuietFrame (s t : State) : Prop extends Frame s t where
  flags : t.flags = s.flags

theorem frame_of_kept {s t : State} (hm : t.mem = s.mem) (hc : ControlKept s t) : Frame s t :=
  ⟨hm ▸ .same, hc⟩

theorem QuietFrame.refl (s : State) : QuietFrame s s := ⟨frame_of_kept rfl (by simp [ControlKept]), rfl⟩

theorem QuietFrame.trans {s u t : State} (h1 : QuietFrame s u) (h2 : QuietFrame u t) : QuietFrame s t := by
  obtain ⟨⟨hm1, hie, hpend, hhalt, hio, hprot, hsched⟩, hf1⟩ := h1
  obtain ⟨⟨hm2, hc2⟩, hf2⟩ := h2
  exact ⟨⟨hm1.trans hprot hm2, by simpa only [ControlKept, hie, hpend, hhalt, hio, hprot, hsched] using hc2⟩,
    hf2.trans hf1⟩

/-- Two frames one after the other. -/
theorem Ensures.andThen_quiet {s : State} {r : Result} {k : State → Result} (hr : Ensures r (QuietFrame s))
    (hk : ∀ u, Ensures (k u) (QuietFrame u)) : Ensures (andThen r k) (QuietFrame s) :=
  ensures_andThen.mpr (hr.mono fun u hu => (hk u).mono fun _ => hu.trans)

/-! ## The frames of the shared operations -/

section
variable (s : State)

theorem setPc_quiet (v : Word) : QuietFrame s (s.setPc v) := ⟨frame_of_kept rfl (by simp [ControlKept]), rfl⟩
theorem setSp_quiet (v : Word) : QuietFrame s (s.setSp v) := ⟨frame_of_kept rfl (by simp [ControlKept]), rfl⟩
theorem setRegs_quiet (v : Regs) : QuietFrame s (s.setRegs v) := ⟨frame_of_kept rfl (by simp [ControlKept]), rfl⟩

theorem setA_quiet (v : Byte) : QuietFrame s (s.setA v) := setRegs_quiet s _

/-- Two register writes, as every write of a pair is. -/
theorem setRegs_setRegs_quiet (v w : Regs) : QuietFrame s ((s.setRegs v).setRegs w) :=
  (setRegs_quiet s v).trans (setRegs_quiet _ w)

theorem wrPair_quiet (p : Pair) (v : Word) : QuietFrame s (wrPair p v s) := by
  cases p with
  | sp => exact setSp_quiet s v
  | bc | de | hl => exact setRegs_setRegs_quiet s _ _

theorem finish_quiet (n : Nat) : Ensures (finish n s) (QuietFrame s) := ensures_next.mpr (setPc_quiet s _)

theorem QuietFrame.thenFinish {s u : State} (h : QuietFrame s u) (n : Nat) : Ensures (finish n u) (QuietFrame s) :=
  (finish_quiet u n).mono fun _ => h.trans

theorem memWrite_quiet (addr : Word) (v : Byte) : Ensures (memWrite addr v s) (QuietFrame s) := by
  intro t ht
  obtain ⟨hu, rfl⟩ := memWrite_eq_next_iff.mp ht
  exact ⟨⟨StoresOf.same.store hu v, by simp [ControlKept]⟩, rfl⟩

theorem wrOp_quiet (sel : Sel) (v : Byte) : Ensures (wrOp sel v s) (QuietFrame s) := by
  cases sel with
  | m => exact memWrite_quiet s _ v
  | b | c | d | e | h | l | a => exact ensures_next.mpr (setRegs_quiet s _)

theorem push16_quiet (v : Word) : Ensures (push16 v s) (QuietFrame s) :=
  (memWrite_quiet s _ _).andThen_quiet fun u => (memWrite_quiet u _ _).andThen_quiet fun w =>
    ensures_next.mpr (setSp_quiet w _)

theorem callTo_quiet (ret target : Word) : Ensures (callTo ret target s) (QuietFrame s) :=
  (push16_quiet s ret).andThen_quiet fun u => ensures_next.mpr (setPc_quiet u target)

theorem returnToTop_quiet : QuietFrame s (returnToTop s) := (setSp_quiet s _).trans (setPc_quiet _ _)

/-! ## The frames of the operations of the patterns -/

theorem movOp_quiet (dst src : Sel) : Ensures (movOp dst src s) (QuietFrame s) :=
  (wrOp_quiet s dst _).andThen_quiet fun u => finish_quiet u 1

theorem mviOp_quiet (dst : Sel) (d8 : Byte) : Ensures (mviOp dst d8 s) (QuietFrame s) :=
  (wrOp_quiet s dst d8).andThen_quiet fun u => finish_quiet u 2

theorem pushOp_quiet (p : StackPair) : Ensures (pushOp p s) (QuietFrame s) :=
  (push16_quiet s _).andThen_quiet fun u => finish_quiet u 1

theorem jumpIf_quiet (cond : Cond) (a16 : Word) : Ensures (jumpIf cond a16 s) (QuietFrame s) := by
  unfold jumpIf
  split
  · exact ensures_next.mpr (setPc_quiet s a16)
  · exact finish_quiet s 3

theorem callIf_quiet (cond : Cond) (a16 : Word) : Ensures (callIf cond a16 s) (QuietFrame s) := by
  unfold callIf
  split
  · exact callTo_quiet s _ a16
  · exact finish_quiet s 3

theorem returnIf_quiet (cond : Cond) : Ensures (returnIf cond s) (QuietFrame s) := by
  unfold returnIf
  split
  · exact ensures_next.mpr (returnToTop_quiet s)
  · exact finish_quiet s 1

theorem staxOp_quiet (addr : Word) : Ensures (staxOp addr s) (QuietFrame s) :=
  (memWrite_quiet s addr _).andThen_quiet fun u => finish_quiet u 1

theorem execXthl_quiet : Ensures (execXthl s) (QuietFrame s) :=
  (memWrite_quiet s _ _).andThen_quiet fun u => (memWrite_quiet u _ _).andThen_quiet fun w =>
    (setRegs_setRegs_quiet w _ _).thenFinish 1

theorem execShld_quiet (a16 : Word) : Ensures (execShld a16 s) (QuietFrame s) :=
  (memWrite_quiet s _ _).andThen_quiet fun u => (memWrite_quiet u _ _).andThen_quiet fun w => finish_quiet w 3

theorem execXchg_quiet : Ensures (execXchg s) (QuietFrame s) :=
  ((setRegs_setRegs_quiet s _ _).trans (setRegs_setRegs_quiet _ _ _)).thenFinish 1

/-- `POP` of a register pair; `POP PSW` writes the flags. -/
theorem popOp_quiet {p : StackPair} (hp : p ≠ .psw) : Ensures (popOp p s) (QuietFrame s) := by
  cases p with
  | psw => exact absurd rfl hp
  | bc | de | hl => exact ((setSp_quiet s _).trans (setRegs_setRegs_quiet _ _ _)).thenFinish 1

/-! ## The frames of the flag writers -/

/-- A handler that ends by writing the flags leaves the frame of what it did before. -/
theorem QuietFrame.thenSetFlags {s u : State} (h : QuietFrame s u) (f : Flags) (n : Nat) :
    Ensures (finish n (u.setFlags f)) fun t => Frame s t ∧ t.flags = f :=
  ensures_next.mpr ⟨⟨h.mem, h.control⟩, rfl⟩

/-- `INR` keeps Carry (41_arithmetic.md R139). -/
theorem incOp_frame (sel : Sel) : Ensures (incOp sel s) fun t => Frame s t ∧ t.flags.cy = s.flags.cy :=
  ensures_andThen.mpr ((wrOp_quiet s sel _).mono fun _ hu =>
    (hu.thenSetFlags _ 1).mono fun _ ⟨hframe, hflags⟩ => ⟨hframe, hflags ▸ (inc8_spec _ _).2.1⟩)

/-- `DCR` keeps Carry (41_arithmetic.md R140). -/
theorem decOp_frame (sel : Sel) : Ensures (decOp sel s) fun t => Frame s t ∧ t.flags.cy = s.flags.cy :=
  ensures_andThen.mpr ((wrOp_quiet s sel _).mono fun _ hu =>
    (hu.thenSetFlags _ 1).mono fun _ ⟨hframe, hflags⟩ => ⟨hframe, hflags ▸ (dec8_spec _ _).2.1⟩)

theorem dadOp_frame (p : Pair) :
    Ensures (dadOp p s) fun t => Frame s t ∧
      t.flags = { s.flags with cy := (s.hl.toNat + (rdPair p s).toNat).testBit 16 } :=
  (setRegs_setRegs_quiet s _ _).thenSetFlags _ 1

theorem rotateOp_frame (r : Byte × Bool) :
    Ensures (rotateOp r s) fun t => Frame s t ∧ t.flags = { s.flags with cy := r.2 } :=
  (setA_quiet s _).thenSetFlags _ 1

theorem aluAdd_frame (b : Byte) (c : Bool) (n : Nat) : Ensures (aluAdd b c n s) (Frame s) :=
  ((setA_quiet s _).thenSetFlags _ n).mono fun _ => And.left

theorem aluSub_frame (b : Byte) (c : Bool) (n : Nat) : Ensures (aluSub b c n s) (Frame s) :=
  ((setA_quiet s _).thenSetFlags _ n).mono fun _ => And.left

theorem aluLogic_frame (f : Byte → Byte → Byte × Flags) (b : Byte) (n : Nat) : Ensures (aluLogic f b n s) (Frame s) :=
  ((setA_quiet s _).thenSetFlags _ n).mono fun _ => And.left

theorem aluCompare_frame (b : Byte) (n : Nat) : Ensures (aluCompare b n s) (Frame s) :=
  ((QuietFrame.refl s).thenSetFlags _ n).mono fun _ => And.left

theorem execDaa_frame : Ensures (execDaa s) (Frame s) :=
  ((setA_quiet s _).thenSetFlags _ 1).mono fun _ => And.left

theorem popOp_psw_frame : Ensures (popOp .psw s) (Frame s) :=
  ensures_next.mpr (frame_of_kept rfl (by simp [ControlKept, wrStackPair]))

theorem exec_alu_frame (op : AluOp) (src : Sel) : Ensures (exec (aluInstr op src) s) (Frame s) := by
  cases op with
  | add => rw [exec_add]; exact aluAdd_frame s _ _ _
  | adc => rw [exec_adc]; exact aluAdd_frame s _ _ _
  | sub => rw [exec_sub]; exact aluSub_frame s _ _ _
  | sbb => rw [exec_sbb]; exact aluSub_frame s _ _ _
  | ana => rw [exec_ana]; exact aluLogic_frame s _ _ _
  | xra => rw [exec_xra]; exact aluLogic_frame s _ _ _
  | ora => rw [exec_ora]; exact aluLogic_frame s _ _ _
  | cmp => rw [exec_cmp]; exact aluCompare_frame s _ _

theorem exec_aluImm_frame (op : AluOp) (d8 : Byte) : Ensures (exec (aluImmInstr op d8) s) (Frame s) := by
  cases op with
  | add | adc => exact aluAdd_frame s d8 _ 2
  | sub | sbb => exact aluSub_frame s d8 _ 2
  | ana | xra | ora => exact aluLogic_frame s _ d8 2
  | cmp => exact aluCompare_frame s d8 2

end

/-! ## The effect of an instruction -/

/-- The family is in all three rows of the table of 10_state.md R34. -/
abbrev WritesAllFlags (fam : Family) : Prop := fam ∈ resultFlagWriters ∧ fam ∈ carryWriters ∧ fam ∈ auxWriters

/-- What an instruction that answers `t` can have done to `s`, as far as the flags, the latches and the IOBus go: none of
these, one of the three kinds of flag writer, or one of the four instructions that touch a latch or a port (10_state.md R30,
R31), whose whole next state is given. -/
inductive Effect (s : State) : Instr → State → Prop where
  | quiet {i : Instr} {t : State} (h : QuietFrame s t) : Effect s i t
  /-- `DAD`, the rotates, `STC` and `CMC`. -/
  | carryOnly {i : Instr} {t : State} {cy : Bool} (hc : i.family ∈ carryWriters) (h : Frame s t)
      (hflags : t.flags = { s.flags with cy := cy }) : Effect s i t
  /-- `INR` and `DCR`. -/
  | carryKept {i : Instr} {t : State} (hr : i.family ∈ resultFlagWriters) (ha : i.family ∈ auxWriters)
      (h : Frame s t) (hcy : t.flags.cy = s.flags.cy) : Effect s i t
  /-- The accumulator group, `DAA` and `POP PSW`. -/
  | allFlags {i : Instr} {t : State} (hi : WritesAllFlags i.family) (h : Frame s t) : Effect s i t
  | ei : Effect s .ei ((s.setPend true).advance 1)
  | di : Effect s .di ((s.setIe false).advance 1)
  | hlt : Effect s .hlt (s.setHalt true)
  | out (d8 : Byte) : Effect s (.out d8) ((s.setIo (ioWrite d8 s.regs.a s.io)).advance 2)

theorem aluInstr_family (op : AluOp) (src : Sel) : WritesAllFlags (aluInstr op src).family := by
  cases op <;> cases src <;> decide

theorem aluImmInstr_family (op : AluOp) (d8 : Byte) : WritesAllFlags (aluImmInstr op d8).family := by
  cases op <;> simp only [aluImmInstr, Instr.family] <;> decide

theorem inrInstr_family (dst : Sel) : (inrInstr dst).family = .inr := by cases dst <;> rfl
theorem dcrInstr_family (dst : Sel) : (dcrInstr dst).family = .dcr := by cases dst <;> rfl
theorem dadInstr_family (p : Pair) : (dadInstr p).family = .dad := by cases p <;> rfl

section
variable {s : State} {i : Instr} {r : Result}

theorem Ensures.quiet (h : Ensures r (QuietFrame s)) : Ensures r (Effect s i) := h.mono fun _ => .quiet

theorem Ensures.carryOnly {cy : Bool} (hc : i.family ∈ carryWriters)
    (h : Ensures r fun t => Frame s t ∧ t.flags = { s.flags with cy := cy }) : Ensures r (Effect s i) :=
  h.mono fun _ ⟨hframe, hflags⟩ => .carryOnly hc hframe hflags

theorem Ensures.carryKept (hr : i.family ∈ resultFlagWriters) (ha : i.family ∈ auxWriters)
    (h : Ensures r fun t => Frame s t ∧ t.flags.cy = s.flags.cy) : Ensures r (Effect s i) :=
  h.mono fun _ ⟨hframe, hcy⟩ => .carryKept hr ha hframe hcy

theorem Ensures.allFlags (hi : WritesAllFlags i.family) (h : Ensures r (Frame s)) : Ensures r (Effect s i) :=
  h.mono fun _ => .allFlags hi

end

/-- Every instruction has one of the effects, pattern by pattern. -/
theorem exec_ensures_effect (s : State) (i : Instr) : Ensures (exec i s) (Effect s i) := by
  cases i using Instr.byPattern with
  | mov dst src =>
    by_cases h : dst ≠ .m ∨ src ≠ .m
    · exact exec_mov s dst src h ▸ (movOp_quiet s dst src).quiet
    · obtain ⟨rfl, rfl⟩ : dst = .m ∧ src = .m := by simpa using h
      exact ensures_next.mpr .hlt
  | mvi dst d8 => exact exec_mvi s dst d8 ▸ (mviOp_quiet s dst d8).quiet
  | lxi p d16 => exact exec_lxi s p d16 ▸ ((wrPair_quiet s p d16).thenFinish 3).quiet
  | alu op src => exact (exec_alu_frame s op src).allFlags (aluInstr_family op src)
  | aluImm op d8 => exact (exec_aluImm_frame s op d8).allFlags (aluImmInstr_family op d8)
  | inr dst =>
    exact exec_inr s dst ▸
      (incOp_frame s dst).carryKept (inrInstr_family dst ▸ by decide) (inrInstr_family dst ▸ by decide)
  | dcr dst =>
    exact exec_dcr s dst ▸
      (decOp_frame s dst).carryKept (dcrInstr_family dst ▸ by decide) (dcrInstr_family dst ▸ by decide)
  | inx p => exact exec_inx s p ▸ ((wrPair_quiet s p _).thenFinish 1).quiet
  | dcx p => exact exec_dcx s p ▸ ((wrPair_quiet s p _).thenFinish 1).quiet
  | dad p => exact exec_dad s p ▸ (dadOp_frame s p).carryOnly (dadInstr_family p ▸ by decide)
  | push p => exact exec_push s p ▸ (pushOp_quiet s p).quiet
  | pop p =>
    by_cases hp : p = .psw
    · exact hp ▸ (popOp_psw_frame s).allFlags (by decide)
    · exact exec_pop s p ▸ (popOp_quiet s hp).quiet
  | jcc cond a16 => exact exec_jcc s cond a16 ▸ (jumpIf_quiet s cond a16).quiet
  | ccc cond a16 => exact exec_ccc s cond a16 ▸ (callIf_quiet s cond a16).quiet
  | rcc cond => exact exec_rcc s cond ▸ (returnIf_quiet s cond).quiet
  | rst n => exact exec_rst s n ▸ (callTo_quiet s _ _).quiet
  | nop => exact (finish_quiet s 1).quiet
  | staxB | staxD => exact (staxOp_quiet s _).quiet
  | ldaxB | ldaxD => exact ((setA_quiet s _).thenFinish 1).quiet
  | rlc | rrc | ral | rar => exact (rotateOp_frame s _).carryOnly (by decide)
  | stc | cmc => exact ((QuietFrame.refl s).thenSetFlags _ 1).carryOnly (by decide)
  | daa => exact (execDaa_frame s).allFlags (by decide)
  | shld a16 => exact (execShld_quiet s a16).quiet
  | sta a16 => exact ((memWrite_quiet s a16 _).andThen_quiet fun u => finish_quiet u 3).quiet
  | lhld a16 => exact ((setRegs_setRegs_quiet s _ _).thenFinish 3).quiet
  | lda a16 => exact ((setA_quiet s _).thenFinish 3).quiet
  | cma => exact ((setA_quiet s _).thenFinish 1).quiet
  | jmp a16 => exact ensures_next.mpr (.quiet (setPc_quiet s a16))
  | pchl => exact ensures_next.mpr (.quiet (setPc_quiet s _))
  | ret => exact ensures_next.mpr (.quiet (returnToTop_quiet s))
  | call a16 => exact (callTo_quiet s _ a16).quiet
  | inp d8 => exact ((setA_quiet s _).thenFinish 2).quiet
  | out d8 => exact ensures_next.mpr (.out d8)
  | xthl => exact (execXthl_quiet s).quiet
  | xchg => exact (execXchg_quiet s).quiet
  | sphl => exact ((setSp_quiet s _).thenFinish 1).quiet
  | di => exact ensures_next.mpr .di
  | ei => exact ensures_next.mpr .ei
  | illegal08 | illegal10 | illegal18 | illegal20 | illegal28 | illegal30 | illegal38
  | illegalCB | illegalD9 | illegalDD | illegalED | illegalFD => exact ensures_fault _ _

/-- The effect of an instruction that answers a next state. -/
theorem exec_effect {i : Instr} {s t : State} (h : exec i s = .next t) : Effect s i t :=
  exec_ensures_effect s i t h

end Sys2Proof.Machine
end

section
/-! PROOFS. A flag changes only by its writers (spec/10_state.md R34). -/

namespace Sys2Proof.Machine

/-- What the table of 10_state.md R34 allows an instruction of family `fam` to do to the flags `f`. -/
def FlagsKeptByFamily (fam : Family) (f g : Flags) : Prop :=
  (fam ∉ resultFlagWriters → g.z = f.z ∧ g.s = f.s ∧ g.p = f.p) ∧
    (fam ∉ carryWriters → g.cy = f.cy) ∧ (fam ∉ auxWriters → g.ac = f.ac)

theorem FlagsKeptByFamily.of_eq {fam : Family} {f g : Flags} (h : g = f) : FlagsKeptByFamily fam f g :=
  ⟨fun _ => by simp [h], fun _ => by simp [h], fun _ => by simp [h]⟩

theorem Effect.flagsKept {i : Instr} {s t : State} (h : Effect s i t) : FlagsKeptByFamily i.family s.flags t.flags := by
  cases h with
  | quiet h => exact .of_eq h.flags
  | carryOnly hc _ hflags => exact ⟨fun _ => by simp [hflags], fun hn => absurd hc hn, fun _ => by simp [hflags]⟩
  | carryKept hr ha _ hcy => exact ⟨fun hn => absurd hr hn, fun _ => hcy, fun hn => absurd ha hn⟩
  | allFlags hi _ =>
    obtain ⟨hr, hc, ha⟩ := hi
    exact ⟨fun hn => absurd hr hn, fun hn => absurd hc hn, fun hn => absurd ha hn⟩
  | ei | di | hlt | out => exact .of_eq rfl

/-- Settles O54: by the cases of `exec_effect`, an instruction changes a flag only if its family is in the flag's row. -/
theorem flagsChangeOnlyByTheirWriters : Obligations.FlagsChangeOnlyByTheirWriters := by
  unfold Obligations.FlagsChangeOnlyByTheirWriters
  intro i s t h
  exact (exec_effect h).flagsKept

end Sys2Proof.Machine
end

section
/-! PROOFS. The PSW byte (spec/10_state.md R28, R29). -/

namespace Sys2Proof.Machine

/-- The packed byte, bit by bit (10_state.md R28). -/
theorem pack_bits (f : Flags) :
    (pack f).getLsbD 7 = f.s ∧ (pack f).getLsbD 6 = f.z ∧ (pack f).getLsbD 5 = false ∧ (pack f).getLsbD 4 = f.ac ∧
    (pack f).getLsbD 3 = false ∧ (pack f).getLsbD 2 = f.p ∧ (pack f).getLsbD 1 = true ∧ (pack f).getLsbD 0 = f.cy := by
  simp only [pack, append_bit]
  simp

/-- Packing what was unpacked forces the three bits that hold no flag (10_state.md R28, R29). -/
theorem pack_unpack (b : Byte) : pack (unpack b) = (b &&& 0xD5) ||| 0x02 := by
  apply BitVec.eq_of_getLsbD_eq
  intro k hk
  interval_cases k <;> simp only [pack_bits] <;> simp [unpack]

/-- Settles O28: the eight bits of the packed byte, and both round trips. -/
theorem pswByteLayout : Obligations.PswByteLayout := by
  unfold Obligations.PswByteLayout
  refine ⟨fun f => ?_, fun b => ⟨rfl, pack_unpack b⟩⟩
  obtain ⟨h7, h6, h5, h4, h3, h2, h1, h0⟩ := pack_bits f
  exact ⟨h7, h6, h5, h4, h3, h2, h1, h0, unpack_pack f⟩

end Sys2Proof.Machine
end

section
/-! PROOFS. The invariant holds at reset, and the driver's moves and the core's step keep it (spec/10_state.md R30, R35;
spec/20_memory.md R54; spec/46_machine_control.md R243). -/

namespace Sys2Proof.Machine

/-- Settles O56: nothing is listed, nothing is protected, and the core is not halted. -/
theorem resetMeetsTheInvariant : Obligations.ResetMeetsTheInvariant := by
  unfold Obligations.ResetMeetsTheInvariant
  exact ⟨rfl, fun h => absurd h Bool.false_ne_true, fun r hr => absurd hr List.not_mem_nil⟩

/-- A frame keeps the invariant. -/
theorem Frame.inv {s t : State} (h : Frame s t) (hs : s.Inv) : t.Inv := by
  obtain ⟨hmem, -, hpend, hhalt, -, hprot, -⟩ := h
  obtain ⟨hwf, hlatch, hranges⟩ := hs
  exact ⟨hmem.wf hwf, by rwa [hpend, hhalt], by rwa [hprot]⟩

/-! ## The driver's moves -/

/-- The entry of an interrupt clears `HALT` (60_exceptions.md R253), so what it leaves in `PEND` does not matter. -/
theorem interruptEntry_inv {vector : Word} {s t : State} (hs : s.Inv) (h : interruptEntry vector s = .next t) : t.Inv := by
  obtain ⟨u, hu, rfl⟩ := interruptEntry_eq_next h
  obtain ⟨hwf, -, hranges⟩ := (push16_quiet s s.pc u hu).inv hs
  exact ⟨hwf, fun hhalt => absurd hhalt Bool.false_ne_true, hranges⟩

theorem interrupt_inv {n : Nat} {s t : State} (hs : s.Inv) (h : interrupt n s = .next t) : t.Inv := by
  rcases interrupt_cases n s with ⟨-, he⟩ | ⟨-, -, he⟩ | ⟨-, -, he⟩ <;> rw [he] at h
  · cases h
  · cases h
    exact hs
  · exact interruptEntry_inv hs h

/-- An input event writes the IOBus alone (45_io_shift_register.md R230). -/
theorem handleInput_eq_next {port bit : Nat} {pressed : Bool} {s t : State} (h : handleInput port bit pressed s = .next t) :
    ∃ io, t = s.setIo io := by
  unfold handleInput at h
  split at h
  · cases h
  · split at h
    · cases h
      exact ⟨_, rfl⟩
    · split at h
      · cases h
        exact ⟨_, rfl⟩
      · cases h

theorem driverReset_inv {s : State} (hs : s.Inv) : (driverReset s).Inv := by
  obtain ⟨hwf, -, hranges⟩ := hs
  exact ⟨hwf, fun _ => rfl, hranges⟩

theorem applyEvent_inv {ev : DriverEvent} {s t : State} (hs : s.Inv) (h : applyEvent ev s = .next t) : t.Inv := by
  cases ev with
  | interrupt n => exact interrupt_inv hs h
  | input port bit pressed =>
    obtain ⟨io, rfl⟩ := handleInput_eq_next h
    exact hs
  | reset =>
    cases h
    exact driverReset_inv hs

theorem applyEvents_inv {evs : List DriverEvent} {s t : State} (hs : s.Inv) (h : applyEvents evs s = .next t) : t.Inv := by
  induction evs generalizing s with
  | nil =>
    cases h
    exact hs
  | cons ev evs ih =>
    obtain ⟨u, hu, ht⟩ := andThen_eq_next_iff.mp h
    exact ih (applyEvent_inv hs hu) ht

theorem boundary_inv {s t : State} (hs : s.Inv) (h : boundary s = .next t) : t.Inv := by
  unfold boundary at h
  split at h
  · cases h
    exact hs
  · next rest _ => exact applyEvents_inv (s := s.setSchedule rest) hs h

/-! ## The core's step -/

@[simp] theorem beforeHandler_mem (i : Instr) (s : State) : (beforeHandler i s).mem = s.mem := by
  cases h : i.wellFormed <;> simp [beforeHandler, activate_eq, h]

@[simp] theorem beforeHandler_halt (i : Instr) (s : State) : (beforeHandler i s).halt = s.halt := by
  cases h : i.wellFormed <;> simp [beforeHandler, activate_eq, h]

@[simp] theorem beforeHandler_prot (i : Instr) (s : State) : (beforeHandler i s).prot = s.prot := by
  cases h : i.wellFormed <;> simp [beforeHandler, activate_eq, h]

/-- An instruction's handler runs with no enable pending (60_exceptions.md R250 step 4). -/
theorem beforeHandler_pend {i : Instr} (h : i.wellFormed = true) (s : State) : (beforeHandler i s).pend = false := by
  simp [beforeHandler, activate_eq, h]

/-- A running core's next handler keeps the invariant. `HLT` finds `PEND` activated away, and `EI`, the one instruction that
sets it, leaves the core running. -/
theorem handler_inv {i : Instr} {s t : State} (hs : s.Inv) (hrun : s.halt = false)
    (h : exec i (beforeHandler i s) = .next t) : t.Inv := by
  obtain ⟨hwf, -, hranges⟩ := hs
  have hbefore : (beforeHandler i s).Inv := ⟨by simpa using hwf, by simp [hrun], by simpa using hranges⟩
  cases exec_effect h with
  | quiet h => exact h.inv hbefore
  | carryOnly _ h _ => exact h.inv hbefore
  | carryKept _ _ h _ => exact h.inv hbefore
  | allFlags _ h => exact h.inv hbefore
  | ei => exact ⟨by simpa using hwf, by simp [hrun], by simpa using hranges⟩
  | di | out => exact hbefore
  | hlt => exact ⟨by simpa using hwf, fun _ => beforeHandler_pend rfl s, by simpa using hranges⟩

theorem coreStep_inv {s t : State} (hs : s.Inv) (h : coreStep s = .next t) : t.Inv := by
  cases hhalt : s.halt with
  | true =>
    rw [coreStep_of_halted hhalt] at h
    cases h
    exact hs
  | false => exact handler_inv hs hhalt (coreStep_of_running hhalt ▸ h)

/-- Settles O57: the boundary's events keep the invariant one by one, and so does the core's step after them. -/
theorem everyStepKeepsTheInvariant : Obligations.EveryStepKeepsTheInvariant := by
  unfold Obligations.EveryStepKeepsTheInvariant
  intro s t hs h
  obtain ⟨u, hu, ht⟩ := andThen_eq_next_iff.mp h
  exact coreStep_inv (boundary_inv hs hu) ht

end Sys2Proof.Machine
end

section
/-! PROOFS. No step changes a protected byte or the protected ranges (spec/20_memory.md R53, R54). A store that does not fault
is at an address no range holds, so a held byte reads through it; every other move leaves memory alone. -/

namespace Sys2Proof.Machine

/-- From `s` to `t` the protected ranges are the same, and every byte one of them holds reads as before. -/
structure ProtectionKept (s t : State) : Prop where
  ranges : t.prot = s.prot
  bytes : ∀ (r : ProtRange) (x : Word), r ∈ s.prot → r.holds x = true → memRead x t = memRead x s

theorem protectionKept_of_eq {s t : State} (hprot : t.prot = s.prot) (hmem : t.mem = s.mem) : ProtectionKept s t :=
  ⟨hprot, fun _ x _ _ => memRead_congr hmem x⟩

theorem ProtectionKept.trans {s u t : State} (h1 : ProtectionKept s u) (h2 : ProtectionKept u t) : ProtectionKept s t :=
  ⟨h2.ranges.trans h1.ranges, fun r x hr hx => (h2.bytes r x (h1.ranges ▸ hr) hx).trans (h1.bytes r x hr hx)⟩

theorem Ensures.andThen_protectionKept {s : State} {r : Result} {k : State → Result} (hr : Ensures r (ProtectionKept s))
    (hk : ∀ u, Ensures (k u) (ProtectionKept u)) : Ensures (andThen r k) (ProtectionKept s) :=
  ensures_andThen.mpr (hr.mono fun u hu => (hk u).mono fun _ => hu.trans)

/-! ## Handlers -/

/-- A byte that a range of `Protected` holds reads through unprotected stores. -/
theorem StoresOf.byteAt_of_holds {s : State} {m : Memory} (h : StoresOf s m) {r : ProtRange} {x : Word} (hr : r ∈ s.prot)
    (hx : r.holds x = true) : Memory.byteAt m x.toNat = memRead x s := by
  induction h with
  | same => rfl
  | @store m _ addr hu v ih =>
    have hne : x ≠ addr := by
      rintro rfl
      exact absurd hx (by simp [hu r hr])
    rw [Memory.byteAt_put, if_neg (mt BitVec.toNat_inj.mp hne), ih]

theorem Frame.protectionKept {s t : State} (h : Frame s t) : ProtectionKept s t := by
  obtain ⟨hmem, -, -, -, -, hprot, -⟩ := h
  exact ⟨hprot, fun _ _ hr hx => hmem.byteAt_of_holds hr hx⟩

theorem Effect.protectionKept {i : Instr} {s t : State} (h : Effect s i t) : ProtectionKept s t := by
  cases h with
  | quiet h => exact h.protectionKept
  | carryOnly _ h _ => exact h.protectionKept
  | carryKept _ _ h _ => exact h.protectionKept
  | allFlags _ h => exact h.protectionKept
  | ei | di | hlt | out => exact protectionKept_of_eq rfl rfl

theorem coreStep_protectionKept (s : State) : Ensures (coreStep s) (ProtectionKept s) := by
  cases hhalt : s.halt with
  | true => exact coreStep_of_halted hhalt ▸ ensures_next.mpr (protectionKept_of_eq rfl rfl)
  | false =>
    have hbefore : ProtectionKept s (beforeHandler (fetch s) s) := protectionKept_of_eq (by simp) (by simp)
    rw [coreStep_of_running hhalt]
    exact (exec_ensures_effect _ _).mono fun _ ht => hbefore.trans ht.protectionKept

/-! ## The driver's moves -/

/-- The entry of an interrupt pushes, and its push obeys `Protected` as every store does (60_exceptions.md R253, R261). -/
theorem interruptEntry_protectionKept (vector : Word) (s : State) :
    Ensures (interruptEntry vector s) (ProtectionKept s) :=
  Ensures.andThen_protectionKept ((push16_quiet s s.pc).mono fun _ h => h.protectionKept)
    fun _ => ensures_next.mpr (protectionKept_of_eq rfl rfl)

theorem interrupt_protectionKept (n : Nat) (s : State) : Ensures (interrupt n s) (ProtectionKept s) := by
  rcases interrupt_cases n s with ⟨-, he⟩ | ⟨-, -, he⟩ | ⟨-, -, he⟩ <;> rw [he]
  · exact fun _ h => nomatch h
  · exact ensures_next.mpr (protectionKept_of_eq rfl rfl)
  · exact interruptEntry_protectionKept _ s

theorem applyEvent_protectionKept (ev : DriverEvent) (s : State) : Ensures (applyEvent ev s) (ProtectionKept s) := by
  cases ev with
  | interrupt n => exact interrupt_protectionKept n s
  | input port bit pressed =>
    intro t h
    obtain ⟨io, rfl⟩ := handleInput_eq_next h
    exact protectionKept_of_eq rfl rfl
  | reset => exact ensures_next.mpr (protectionKept_of_eq rfl rfl)

theorem applyEvents_protectionKept (evs : List DriverEvent) (s : State) :
    Ensures (applyEvents evs s) (ProtectionKept s) := by
  induction evs generalizing s with
  | nil => exact ensures_next.mpr (protectionKept_of_eq rfl rfl)
  | cons ev evs ih => exact (applyEvent_protectionKept ev s).andThen_protectionKept ih

theorem boundary_protectionKept (s : State) : Ensures (boundary s) (ProtectionKept s) := by
  unfold boundary
  split
  · exact ensures_next.mpr (protectionKept_of_eq rfl rfl)
  · next evs rest _ =>
    have hsched : ProtectionKept s (s.setSchedule rest) := protectionKept_of_eq rfl rfl
    exact (applyEvents_protectionKept evs _).mono fun _ => hsched.trans

/-- Settles O58: the boundary's events keep the protection one by one, and so does the core's step after them. -/
theorem protectedBytesNeverChange : Obligations.ProtectedBytesNeverChange := by
  unfold Obligations.ProtectedBytesNeverChange
  intro s t h
  obtain ⟨hranges, hbytes⟩ := (boundary_protectionKept s).andThen_protectionKept coreStep_protectionKept t h
  exact ⟨hranges, hbytes⟩

end Sys2Proof.Machine
end

section
/-! PROOFS. No instruction but `IN` and `OUT` depends on the IOBus (spec/20_memory.md R55; spec/45_io_shift_register.md R228):
from a state with another IOBus it answers the same outcome with that IOBus. -/

namespace Sys2Proof.Machine

/-- The same outcome with another IOBus in the state it carries. -/
def withIo (io : IoBus) : Result → Result
  | .next s => .next (s.setIo io)
  | .fault (.illegalOpcode pc0 op left) => .fault (.illegalOpcode pc0 op (left.setIo io))
  | .fault (.protectedWrite addr range left) => .fault (.protectedWrite addr range (left.setIo io))
  | .refused q => .refused q

/-- The operation answers the same, whatever the IOBus, and passes it on. -/
def IgnoresIo (k : State → Result) : Prop := ∀ s io, k (s.setIo io) = withIo io (k s)

/-- Two operations in a row; what the second one takes from before the first may differ by the IOBus alone. -/
theorem andThen_withIo {io : IoBus} {r r' : Result} {k k' : State → Result} (hr : r' = withIo io r)
    (hk : ∀ u, k' (u.setIo io) = withIo io (k u)) : andThen r' k' = withIo io (andThen r k) := by
  subst hr
  cases r with
  | next u => exact hk u
  | fault f => cases f <;> rfl
  | refused q => rfl

/-! ## The shared operations -/

theorem rdOp_setIo (sel : Sel) (s : State) (io : IoBus) : rdOp sel (s.setIo io) = rdOp sel s := by cases sel <;> rfl

theorem wrPair_setIo (p : Pair) (v : Word) (s : State) (io : IoBus) :
    wrPair p v (s.setIo io) = (wrPair p v s).setIo io := by cases p <;> rfl

theorem rdPair_setIo (p : Pair) (s : State) (io : IoBus) : rdPair p (s.setIo io) = rdPair p s := by cases p <;> rfl

theorem rdStackPair_setIo (p : StackPair) (s : State) (io : IoBus) : rdStackPair p (s.setIo io) = rdStackPair p s := by
  cases p <;> rfl

theorem memWrite_ignoresIo (addr : Word) (v : Byte) : IgnoresIo (memWrite addr v) := by
  intro s io
  rcases memWrite_cases addr v s with ⟨h, e⟩ | ⟨r, h, e⟩ <;> rw [e]
  · exact memWrite_of_unprotected (s := s.setIo io) h v
  · exact memWrite_of_firstHolder (s := s.setIo io) h v

theorem wrOp_ignoresIo (sel : Sel) (v : Byte) : IgnoresIo (wrOp sel v) := by
  intro s io
  cases sel with
  | m => exact memWrite_ignoresIo s.hl v s io
  | b | c | d | e | h | l | a => rfl

theorem finish_ignoresIo (n : Nat) : IgnoresIo (finish n) := fun _ _ => rfl

/-- Two stores, then an operation that ignores the IOBus too: every push, `SHLD` and `XTHL`. -/
theorem memWrite_memWrite_withIo {s : State} {io : IoBus} {k k' : State → Result} (a1 a2 : Word) (v1 v2 : Byte)
    (hk : ∀ u, k' (u.setIo io) = withIo io (k u)) :
    andThen (memWrite a1 v1 (s.setIo io)) (fun u => andThen (memWrite a2 v2 u) k') =
      withIo io (andThen (memWrite a1 v1 s) fun u => andThen (memWrite a2 v2 u) k) :=
  andThen_withIo (memWrite_ignoresIo a1 v1 s io) fun u => andThen_withIo (memWrite_ignoresIo a2 v2 u io) hk

theorem push16_ignoresIo (v : Word) : IgnoresIo (push16 v) := fun _ _ => memWrite_memWrite_withIo _ _ _ _ fun _ => rfl

theorem callTo_ignoresIo (ret target : Word) : IgnoresIo (callTo ret target) := fun s io =>
  andThen_withIo (push16_ignoresIo ret s io) fun _ => rfl

/-! ## The operations of the patterns -/

theorem movOp_ignoresIo (dst src : Sel) : IgnoresIo (movOp dst src) := by
  intro s io
  rw [movOp, rdOp_setIo]
  exact andThen_withIo (wrOp_ignoresIo dst _ s io) fun u => finish_ignoresIo 1 u io

theorem mviOp_ignoresIo (dst : Sel) (d8 : Byte) : IgnoresIo (mviOp dst d8) := fun s io =>
  andThen_withIo (wrOp_ignoresIo dst d8 s io) fun u => finish_ignoresIo 2 u io

theorem incOp_ignoresIo (sel : Sel) : IgnoresIo (incOp sel) := by
  intro s io
  rw [incOp, rdOp_setIo]
  exact andThen_withIo (wrOp_ignoresIo sel _ s io) fun _ => rfl

theorem decOp_ignoresIo (sel : Sel) : IgnoresIo (decOp sel) := by
  intro s io
  rw [decOp, rdOp_setIo]
  exact andThen_withIo (wrOp_ignoresIo sel _ s io) fun _ => rfl

theorem lxiOp_ignoresIo (p : Pair) (d16 : Word) : IgnoresIo (lxiOp p d16) := by
  intro s io
  rw [lxiOp, wrPair_setIo]
  rfl

theorem inxOp_ignoresIo (p : Pair) : IgnoresIo (inxOp p) := by
  intro s io
  rw [inxOp, rdPair_setIo, wrPair_setIo]
  rfl

theorem dcxOp_ignoresIo (p : Pair) : IgnoresIo (dcxOp p) := by
  intro s io
  rw [dcxOp, rdPair_setIo, wrPair_setIo]
  rfl

theorem dadOp_ignoresIo (p : Pair) : IgnoresIo (dadOp p) := by
  intro s io
  rw [dadOp, rdPair_setIo]
  rfl

theorem pushOp_ignoresIo (p : StackPair) : IgnoresIo (pushOp p) := by
  intro s io
  rw [pushOp, rdStackPair_setIo]
  exact andThen_withIo (push16_ignoresIo _ s io) fun u => finish_ignoresIo 1 u io

theorem popOp_ignoresIo (p : StackPair) : IgnoresIo (popOp p) := by
  intro s io
  cases p <;> rfl

theorem staxOp_ignoresIo (addr : Word) : IgnoresIo (staxOp addr) := fun s io =>
  andThen_withIo (memWrite_ignoresIo addr _ s io) fun u => finish_ignoresIo 1 u io

/-- A branch on the flags, which the IOBus is no part of. -/
theorem ite_ignoresIo {cond : Cond} {k k' : State → Result} (h : IgnoresIo k) (h' : IgnoresIo k') :
    IgnoresIo fun s => if condHolds cond s.flags then k s else k' s := by
  intro s io
  cases hc : condHolds cond s.flags with
  | true => simp [hc, h s io]
  | false => simp [hc, h' s io]

theorem jumpIf_ignoresIo (cond : Cond) (a16 : Word) : IgnoresIo (jumpIf cond a16) :=
  ite_ignoresIo (fun _ _ => rfl) (finish_ignoresIo 3)

theorem callIf_ignoresIo (cond : Cond) (a16 : Word) : IgnoresIo (callIf cond a16) :=
  ite_ignoresIo (fun s io => callTo_ignoresIo (s.pc + 3) a16 s io) (finish_ignoresIo 3)

theorem returnIf_ignoresIo (cond : Cond) : IgnoresIo (returnIf cond) :=
  ite_ignoresIo (fun _ _ => rfl) (finish_ignoresIo 1)

/-! ## The instructions -/

theorem exec_alu_ignoresIo (op : AluOp) (src : Sel) : IgnoresIo (exec (aluInstr op src)) := by
  intro s io
  cases op <;>
    simp only [exec_add, exec_adc, exec_sub, exec_sbb, exec_ana, exec_xra, exec_ora, exec_cmp, rdOp_setIo] <;> rfl

theorem exec_aluImm_ignoresIo (op : AluOp) (d8 : Byte) : IgnoresIo (exec (aluImmInstr op d8)) := by
  intro s io
  cases op <;> rfl

/-- `IN` and `OUT` are the only instructions that see the IOBus; the others answer the same with any, faults included. -/
theorem exec_ignoresIo {i : Instr} (hin : i.family ≠ .inp) (hout : i.family ≠ .out) : IgnoresIo (exec i) := by
  cases i using Instr.byPattern with
  | inp d8 => exact absurd rfl hin
  | out d8 => exact absurd rfl hout
  | mov dst src =>
    by_cases h : dst ≠ .m ∨ src ≠ .m
    · exact funext (exec_mov · dst src h) ▸ movOp_ignoresIo dst src
    · obtain ⟨rfl, rfl⟩ : dst = .m ∧ src = .m := by simpa using h
      exact fun _ _ => rfl
  | mvi dst d8 => exact funext (exec_mvi · dst d8) ▸ mviOp_ignoresIo dst d8
  | lxi p d16 => exact funext (exec_lxi · p d16) ▸ lxiOp_ignoresIo p d16
  | alu op src => exact exec_alu_ignoresIo op src
  | aluImm op d8 => exact exec_aluImm_ignoresIo op d8
  | inr dst => exact funext (exec_inr · dst) ▸ incOp_ignoresIo dst
  | dcr dst => exact funext (exec_dcr · dst) ▸ decOp_ignoresIo dst
  | inx p => exact funext (exec_inx · p) ▸ inxOp_ignoresIo p
  | dcx p => exact funext (exec_dcx · p) ▸ dcxOp_ignoresIo p
  | dad p => exact funext (exec_dad · p) ▸ dadOp_ignoresIo p
  | push p => exact funext (exec_push · p) ▸ pushOp_ignoresIo p
  | pop p => exact funext (exec_pop · p) ▸ popOp_ignoresIo p
  | jcc cond a16 => exact funext (exec_jcc · cond a16) ▸ jumpIf_ignoresIo cond a16
  | ccc cond a16 => exact funext (exec_ccc · cond a16) ▸ callIf_ignoresIo cond a16
  | rcc cond => exact funext (exec_rcc · cond) ▸ returnIf_ignoresIo cond
  | rst n => exact funext (exec_rst · n) ▸ fun s io => callTo_ignoresIo (s.pc + 1) _ s io
  | call a16 => exact fun s io => callTo_ignoresIo (s.pc + 3) a16 s io
  | staxB => exact fun s io => staxOp_ignoresIo s.bc s io
  | staxD => exact fun s io => staxOp_ignoresIo s.de s io
  | sta a16 => exact fun s io => andThen_withIo (memWrite_ignoresIo a16 _ s io) fun u => finish_ignoresIo 3 u io
  | shld a16 => exact fun s io => memWrite_memWrite_withIo _ _ _ _ fun u => finish_ignoresIo 3 u io
  | xthl => exact fun s io => memWrite_memWrite_withIo _ _ _ _ fun _ => rfl
  | nop | ldaxB | ldaxD | lhld | lda | xchg | sphl | rlc | rrc | ral | rar | daa | cma | stc | cmc
  | jmp | ret | pchl | di | ei
  | illegal08 | illegal10 | illegal18 | illegal20 | illegal28 | illegal30 | illegal38
  | illegalCB | illegalD9 | illegalDD | illegalED | illegalFD => exact fun _ _ => rfl

/-- Settles O41: the next state of `exec_ignoresIo`. -/
theorem onlyInAndOutSeeTheIoBus : Obligations.OnlyInAndOutSeeTheIoBus := by
  unfold Obligations.OnlyInAndOutSeeTheIoBus
  intro i s t io hin hout h
  calc exec i { s with io := io }
    _ = withIo io (exec i s) := exec_ignoresIo hin hout s io
    _ = .next { t with io := io } := by rw [h]; rfl

end Sys2Proof.Machine
end

section
/-! PROOFS. The decoder's fields and the encoder's grid are one table (spec/30_encoding.md R80 to R92). -/

namespace Sys2Proof

/-! ## What a form reads -/

/-- What a form makes of the operand bytes it waits for, low byte first (30_encoding.md R81, R84). -/
inductive Form.Reads : Form → List Byte → Instr → Prop where
  | f1 (i : Instr) : Reads (.f1 i) [] i
  | f2 (k : Byte → Instr) (d8 : Byte) : Reads (.f2 k) [d8] (k d8)
  | f3 (k : Word → Instr) (lo hi : Byte) : Reads (.f3 k) [lo, hi] (k (wordOf hi lo))

/-- A 16-bit operand, by its value. -/
theorem Form.Reads.word (k : Word → Instr) (v : Word) : Reads (.f3 k) [loByte v, hiByte v] (k v) := by
  simpa using f3 k (loByte v) (hiByte v)

/-! ## What `decode` answers -/

/-- Everything `decode` can answer: an opcode byte, the operand bytes its form reads, and what is left. -/
theorem decode_eq_ok_iff {bytes rest : List Byte} {i : Instr} :
    decode bytes = .ok (i, rest) ↔ ∃ op ops, bytes = op :: (ops ++ rest) ∧ (decodeOpcode op).Reads ops i := by
  constructor
  · intro h
    unfold decode at h
    split at h
    · simp at h
    next op tail =>
      refine ⟨op, ?_⟩
      split at h <;> simp only [reduceCtorEq, Except.ok.injEq, Prod.mk.injEq] at h <;> obtain ⟨rfl, rfl⟩ := h
      next hform => exact ⟨[], rfl, hform ▸ .f1 _⟩
      next d8 _ hform => exact ⟨[d8], rfl, hform ▸ .f2 _ d8⟩
      next lo hi _ hform => exact ⟨[lo, hi], rfl, hform ▸ .f3 _ lo hi⟩
  · rintro ⟨op, ops, rfl, h⟩
    generalize hform : decodeOpcode op = form at h
    cases h <;> simp [decode, hform]

/-! ## The fields and the grid -/

/-- The grid encodes every instruction of the form as `op` and then the operand bytes (30_encoding.md R91). -/
def Form.Encodes (op : Byte) : Form → Prop
  | .f1 i => encode i = [op]
  | .f2 k => ∀ d8, encode (k d8) = [op, d8]
  | .f3 k => ∀ v, encode (k v) = [op, loByte v, hiByte v]

theorem Form.Reads.encode_eq {form : Form} {op : Byte} {ops : List Byte} {i : Instr} (h : form.Reads ops i)
    (hform : form.Encodes op) : encode i = op :: ops := by
  cases h with
  | f1 => exact hform
  | f2 _ d8 => exact hform d8
  | f3 _ lo hi => simpa using hform (wordOf hi lo)

/-- The row of an instruction in both tables: the form that the decoder has for its opcode byte reads it, and is encoded as the
grid has it. -/
def InBothTables (i : Instr) : Prop :=
  ∃ op ops, encode i = op :: ops ∧ (decodeOpcode op).Reads ops i ∧ (decodeOpcode op).Encodes op

theorem inBothTables (i : Instr) : InBothTables i := by
  cases i using Instr.byPattern with
  | mov dst src => cases dst <;> cases src <;> exact ⟨_, _, rfl, .f1 _, rfl⟩
  | alu op src => cases op <;> cases src <;> exact ⟨_, _, rfl, .f1 _, rfl⟩
  | inr dst | dcr dst => cases dst <;> exact ⟨_, _, rfl, .f1 _, rfl⟩
  | inx p | dcx p | dad p | push p | pop p => cases p <;> exact ⟨_, _, rfl, .f1 _, rfl⟩
  | rcc cond => cases cond <;> exact ⟨_, _, rfl, .f1 _, rfl⟩
  | rst n =>
    obtain ⟨n, hn⟩ := n
    change n < 8 at hn
    interval_cases n <;> exact ⟨_, _, rfl, .f1 _, rfl⟩
  | mvi dst d8 => cases dst <;> exact ⟨_, _, rfl, .f2 _ d8, fun _ => rfl⟩
  | aluImm op d8 => cases op <;> exact ⟨_, _, rfl, .f2 _ d8, fun _ => rfl⟩
  | out d8 | inp d8 => exact ⟨_, _, rfl, .f2 _ d8, fun _ => rfl⟩
  | lxi p v => cases p <;> exact ⟨_, _, rfl, .word _ v, fun _ => rfl⟩
  | jcc cond v | ccc cond v => cases cond <;> exact ⟨_, _, rfl, .word _ v, fun _ => rfl⟩
  | shld v | lhld v | sta v | lda v | jmp v | call v => exact ⟨_, _, rfl, .word _ v, fun _ => rfl⟩
  | nop | staxB | staxD | ldaxB | ldaxD | rlc | rrc | ral | rar | daa | cma | stc | cmc | ret | pchl | sphl | xthl | xchg | di | ei
  | illegal08 | illegal10 | illegal18 | illegal20 | illegal28 | illegal30 | illegal38
  | illegalCB | illegalD9 | illegalDD | illegalED | illegalFD => exact ⟨_, _, rfl, .f1 _, rfl⟩

/-- Every opcode byte has a row (R93): that of the instruction the decoder finds there. -/
theorem opcodeOf_decode3 (op : Byte) : opcodeOf (decode3 op 0 0) = op := by
  revert op
  decide

/-- Since every opcode byte has an instruction, the rows of the instructions are the forms of all 256 bytes. -/
theorem decodeOpcode_encodes (op : Byte) : (decodeOpcode op).Encodes op := by
  obtain ⟨op', ops, hi, -, hform⟩ := inBothTables (decode3 op 0 0)
  obtain rfl : op' = op :=
    calc op'
      _ = opcodeOf (decode3 op 0 0) := by rw [opcodeOf, hi]; rfl
      _ = op := opcodeOf_decode3 op
  exact hform

/-- The decoder's form of an opcode byte reads exactly what the grid puts after that byte. -/
theorem encode_eq_cons_iff {i : Instr} {op : Byte} {ops : List Byte} :
    encode i = op :: ops ↔ (decodeOpcode op).Reads ops i := by
  constructor
  · intro h
    obtain ⟨op', ops', hi, hreads, -⟩ := inBothTables i
    obtain ⟨rfl, rfl⟩ := List.cons.inj (hi.symm.trans h)
    exact hreads
  · exact fun h => h.encode_eq (decodeOpcode_encodes op)

/-! ## What the opcode byte fixes -/

/-- A row from the bytes of its encoding. -/
theorem opcodeRow_of_encode {i : Instr} {op : Byte} {ops : List Byte} (hi : encode i = op :: ops)
    (hlen : lengthOf op = ops.length + 1) (hwf : i.wellFormed = !decide (op ∈ illegalSet)) : Laws.OpcodeRow.Statement i :=
  Laws.OpcodeRow.of_row i op (ops.length + 1) (by rw [opcodeOf, hi]; rfl) (by rw [hi, List.length_cons]) hlen hwf

/-- Every row of the opcode table is as its opcode byte says. -/
theorem opcodeRow (i : Instr) : Laws.OpcodeRow.Statement i := by
  cases i <;> exact opcodeRow_of_encode rfl rfl rfl

theorem lengthOf_bounds (op : Byte) : 1 ≤ lengthOf op ∧ lengthOf op ≤ 3 := by
  unfold lengthOf
  split <;> decide

/-- The encoding of what is decoded at an opcode byte starts with that byte (30_encoding.md R80). -/
theorem head?_encode_of_decode {op : Byte} {xs rest : List Byte} {i : Instr} (h : decode (op :: xs) = .ok (i, rest)) :
    (encode i).head? = some op := by
  obtain ⟨op', ops, hbytes, hreads⟩ := decode_eq_ok_iff.mp h
  obtain ⟨rfl, -⟩ := List.cons.inj hbytes
  rw [encode_eq_cons_iff.mpr hreads, List.head?_cons]

/-- The length and the legality of what is decoded at an opcode byte, by that byte (30_encoding.md R80, R92). -/
theorem encode_length_and_wellFormed_of_decode {op : Byte} {xs rest : List Byte} {i : Instr}
    (h : decode (op :: xs) = .ok (i, rest)) :
    (encode i).length = lengthOf op ∧ i.wellFormed = !decide (op ∈ illegalSet) := by
  have hop : opcodeOf i = op := by
    rw [opcodeOf, List.headD_eq_head?_getD, head?_encode_of_decode h, Option.getD_some]
  exact hop ▸ opcodeRow i

/-! ## The obligations -/

/-- Settles O1: what the grid puts after the opcode byte is what the decoder's form reads. -/
theorem decodeOfEncodeGivesInstrAndRest : Obligations.DecodeOfEncodeGivesInstrAndRest := by
  unfold Obligations.DecodeOfEncodeGivesInstrAndRest
  intro i rest
  obtain ⟨op, ops, hi, hreads, -⟩ := inBothTables i
  exact decode_eq_ok_iff.mpr ⟨op, ops, by rw [hi, List.cons_append], hreads⟩

/-- Settles O2: what the decoder's form reads is what the grid puts after the opcode byte. -/
theorem encodeOfDecodeGivesBytes : Obligations.EncodeOfDecodeGivesBytes := by
  unfold Obligations.EncodeOfDecodeGivesBytes
  intro bytes rest i h
  obtain ⟨op, ops, rfl, hreads⟩ := decode_eq_ok_iff.mp h
  rw [encode_eq_cons_iff.mpr hreads, List.cons_append]

/-- Settles O3: both instructions have the row of the one opcode byte. -/
theorem opcodeAloneFixesLengthAndLegality : Obligations.OpcodeAloneFixesLengthAndLegality := by
  unfold Obligations.OpcodeAloneFixesLengthAndLegality
  refine ⟨rfl, fun op xs ys rx ry i j hi hj => ?_⟩
  obtain ⟨hlen, hwf⟩ := encode_length_and_wellFormed_of_decode hi
  obtain ⟨hlen', -⟩ := encode_length_and_wellFormed_of_decode hj
  obtain ⟨hlower, hupper⟩ := lengthOf_bounds op
  refine ⟨hlen.trans hlen'.symm, hlen ▸ hlower, hlen ▸ hupper, head?_encode_of_decode hi, ?_⟩
  simp [hwf]

/-- Settles O4: the words are the encodings of the instructions they stand for. -/
theorem writtenWordsDecode : Obligations.WrittenWordsDecode := by
  unfold Obligations.WrittenWordsDecode
  have h (i : Instr) : decode (encode i ++ []) = .ok (i, []) := decodeOfEncodeGivesInstrAndRest i []
  exact ⟨h (.mviA 0x42), h (.mviB 0x08), h .addB, h (.lxiH 0x1234), h .movHM, h .rlc, h .pushPSW, h (.jnz 0x1234),
    h (.out 0x04), h .hlt, h .illegalCB⟩

end Sys2Proof
end

section
/-! PROOFS. What a register write does, said once: it reads back, every other register keeps its value, and so does everything
but the registers (spec/10_state.md R20 to R23). -/

namespace Sys2Proof.Machine

/-! ## One operand -/

@[simp] theorem rdOp_setPc (sel : Sel) (s : State) (v : Word) : rdOp sel (s.setPc v) = rdOp sel s := by
  cases sel <;> rfl

/-- A write to an operand other than `M` changes the registers alone. -/
theorem wrOp_of_register {dst : Sel} (hdst : dst ≠ .m) (v : Byte) (s : State) :
    ∃ regs, wrOp dst v s = .next (s.setRegs regs) := by
  cases dst with
  | m => exact absurd rfl hdst
  | b | c | d | e | h | l | a => exact ⟨_, rfl⟩

/-- An operand written reads back; a write to `M` leaves `HL`, so the same byte is read. -/
theorem rdOp_of_wrOp {dst : Sel} {v : Byte} {s t : State} (h : wrOp dst v s = .next t) : rdOp dst t = v := by
  cases dst with
  | m =>
    obtain ⟨-, rfl⟩ := memWrite_eq_next_iff.mp h
    exact (memRead_setMem_put s s.hl v s.hl).trans (if_pos rfl)
  | b | c | d | e | h | l | a =>
    cases h
    rfl

/-- A write to an operand leaves every register it does not name. -/
theorem regsKeptBut_of_wrOp {dst : Sel} {v : Byte} {s t : State} (h : wrOp dst v s = .next t) :
    RegsKeptBut [dst] s t := by
  intro r hr hdst
  cases dst with
  | m =>
    obtain ⟨-, rfl⟩ := memWrite_eq_next_iff.mp h
    cases r <;> simp [rdOp] at hr ⊢
  | b | c | d | e | h | l | a =>
    cases h
    cases r <;> simp [rdOp] at hr hdst ⊢

/-- Register writes one after the other, among the registers `zs`. -/
theorem regsKeptBut_trans {xs ys zs : List Sel} {s u t : State} (h1 : RegsKeptBut xs s u) (h2 : RegsKeptBut ys u t)
    (hxs : xs ⊆ zs) (hys : ys ⊆ zs) : RegsKeptBut zs s t :=
  fun r hr hzs => (h2 r hr fun hy => hzs (hys hy)).trans (h1 r hr fun hx => hzs (hxs hx))

/-- Moving on to the next instruction leaves every register. -/
theorem regsKeptBut_setPc {xs : List Sel} {s t : State} (h : RegsKeptBut xs s t) (v : Word) :
    RegsKeptBut xs s (t.setPc v) :=
  fun r hr hmem => (rdOp_setPc r t v).trans (h r hr hmem)

/-! ## A pair -/

@[simp] theorem rdPair_setPc (p : Pair) (s : State) (v : Word) : rdPair p (s.setPc v) = rdPair p s := by
  cases p <;> rfl

@[simp] theorem wrPair_pc (p : Pair) (v : Word) (s : State) : (wrPair p v s).pc = s.pc := by cases p <;> rfl
@[simp] theorem wrPair_mem (p : Pair) (v : Word) (s : State) : (wrPair p v s).mem = s.mem := by cases p <;> rfl
@[simp] theorem wrPair_a (p : Pair) (v : Word) (s : State) : (wrPair p v s).regs.a = s.regs.a := by cases p <;> rfl

theorem regsKeptBut_setHl (v : Word) (s : State) : RegsKeptBut [.h, .l] s (s.setHl v) :=
  regsKeptBut_trans (regsKeptBut_of_wrOp (dst := .h) rfl) (regsKeptBut_of_wrOp (dst := .l) rfl) (by simp) (by simp)

theorem regsKeptBut_setDe (v : Word) (s : State) : RegsKeptBut [.d, .e] s (s.setDe v) :=
  regsKeptBut_trans (regsKeptBut_of_wrOp (dst := .d) rfl) (regsKeptBut_of_wrOp (dst := .e) rfl) (by simp) (by simp)

/-! ## Everything else -/

/-- What a frame leaves of a state whose memory and `SP` are unchanged too. -/
theorem QuietFrame.onlyRegsAndFlags {s t : State} (h : QuietFrame s t) (hsp : t.sp = s.sp) (hmem : t.mem = s.mem) :
    OnlyRegsAndFlags s t :=
  ⟨hsp, memRead_congr hmem, h.control⟩

end Sys2Proof.Machine
end

section
/-! PROOFS. Loads, stores and exchanges (spec/40_data_transfer.md R111 to R121, spec/43_stack.md R195). -/

namespace Sys2Proof.Machine

open Sys2Proof.Claims

/-! ## Into a register -/

/-- A handler that writes the register `dst` and moves on: `MOV`, `MVI`, and the loads of `A`. -/
theorem wrOp_finish_of_register {dst : Sel} (hdst : dst ≠ .m) (v : Byte) (n : Nat) (s : State) :
    ∃ t, andThen (wrOp dst v s) (finish n) = .next t ∧
      rdOp dst t = v ∧ RegsKeptBut [dst] s t ∧ t.flags = s.flags ∧ t.pc = s.pc + BitVec.ofNat 16 n ∧
      OnlyRegsAndFlags s t := by
  obtain ⟨regs, hw⟩ := wrOp_of_register hdst v s
  have hframe := (setRegs_quiet s regs).trans (setPc_quiet _ (s.pc + BitVec.ofNat 16 n))
  exact ⟨_, by rw [hw]; rfl, (rdOp_setPc dst _ _).trans (rdOp_of_wrOp hw),
    regsKeptBut_setPc (regsKeptBut_of_wrOp hw) _, rfl, rfl, hframe.onlyRegsAndFlags rfl rfl⟩

/-- Settles O9: both write the register and move on. -/
theorem movAndMviWriteRegisters : Obligations.MovAndMviWriteRegisters := by
  unfold Obligations.MovAndMviWriteRegisters
  intro dst s hdst
  constructor
  · intro src
    rw [exec_mov s dst src (.inl hdst)]
    exact wrOp_finish_of_register hdst (rdOp src s) 1 s
  · intro d8
    rw [exec_mvi]
    exact wrOp_finish_of_register hdst d8 2 s

/-- An instruction whose handler writes `A` and moves on. -/
theorem loadsA_of_exec {i : Instr} {v : Byte} {n : Nat} {s : State} (hexec : exec i s = finish n (s.setA v)) :
    LoadsA i v (BitVec.ofNat 16 n) s := by
  obtain ⟨t, ht, ha, hkept, hflags, hpc, honly⟩ := wrOp_finish_of_register (dst := .a) (by decide) v n s
  exact ⟨t, hexec.trans ht, ha, hflags, hpc, hkept, honly⟩

/-- Settles O12: the loads of `A` write the register `A`; `LHLD` writes `L` and then `H`. -/
theorem loadsReadMemory : Obligations.LoadsReadMemory := by
  unfold Obligations.LoadsReadMemory
  refine ⟨fun a16 s => loadsA_of_exec rfl, fun s => loadsA_of_exec rfl, fun s => loadsA_of_exec rfl, fun a16 s => ?_⟩
  have hframe := (setRegs_setRegs_quiet s _ _).thenFinish 3 _ (rfl : exec (.lhld a16) s = _)
  have hkept : RegsKeptBut [.h, .l] s ((s.setL (memRead a16 s)).setH (memRead (a16 + 1) s)) :=
    regsKeptBut_trans (regsKeptBut_of_wrOp (dst := .l) rfl) (regsKeptBut_of_wrOp (dst := .h) rfl) (by simp) (by simp)
  exact ⟨_, rfl, rfl, rfl, regsKeptBut_setPc hkept _, rfl, rfl, hframe.onlyRegsAndFlags rfl rfl⟩

/-! ## Into a pair -/

/-- Settles O11: a pair written reads back, the others keep their values, and no pair is `A`, a flag or memory. -/
theorem lxiLoadsPair : Obligations.LxiLoadsPair := by
  unfold Obligations.LxiLoadsPair
  intro p d16 s
  obtain ⟨⟨-, hcontrol⟩, hflags⟩ := (wrPair_quiet s p d16).thenFinish 3 _ rfl
  refine ⟨_, exec_lxi s p d16, ?_, fun q hq => ?_, wrPair_a p d16 s, hflags, ?_,
    memRead_congr (wrPair_mem p d16 s), hcontrol⟩
  · simp [rdPair_wrPair]
  · simp [rdPair_wrPair, hq]
  · simp

/-- Settles O14: both old values are taken before a pair is written. -/
theorem xchgAndSphl : Obligations.XchgAndSphl := by
  unfold Obligations.XchgAndSphl
  intro s
  constructor
  · have hkept : RegsKeptBut [.d, .e, .h, .l] s ((s.setHl s.de).setDe s.hl) :=
      regsKeptBut_trans (regsKeptBut_setHl s.de s) (regsKeptBut_setDe s.hl _) (by simp) (by simp)
    exact ⟨_, rfl, State.setHl_hl s s.de, State.setDe_de _ s.hl, regsKeptBut_setPc hkept _, rfl, rfl,
      (execXchg_quiet s _ rfl).onlyRegsAndFlags rfl rfl⟩
  · exact ⟨_, rfl, rfl, rfl, rfl, rfl, fun _ => rfl, ((setSp_quiet s s.hl).thenFinish 1 _ rfl).control⟩

/-! ## Into memory -/

/-- An instruction whose handler stores one byte at an unprotected address and moves on. -/
theorem storesByte_of_exec {i : Instr} {addr : Word} {v : Byte} {n : Nat} {s : State}
    (hexec : exec i s = andThen (memWrite addr v s) (finish n)) (hu : Unprotected s addr) :
    StoresByte i addr v (BitVec.ofNat 16 n) s := by
  rw [memWrite_of_unprotected hu, andThen_next, finish_eq] at hexec
  have hread := memRead_setMem_put s addr v
  refine ⟨_, hexec, (hread addr).trans ?_, fun x hx => (hread x).trans ?_, rfl, rfl, rfl, rfl, by simp [ControlKept]⟩
  · rw [if_pos rfl]
  · rw [if_neg (by simpa using hx)]

/-- Settles O10: each stores one byte at `HL` and moves on. -/
theorem movAndMviStoreAtHl : Obligations.MovAndMviStoreAtHl := by
  unfold Obligations.MovAndMviStoreAtHl
  intro s hu
  exact ⟨fun src hsrc => storesByte_of_exec (exec_mov s .m src (.inr hsrc)) hu, fun d8 => storesByte_of_exec rfl hu⟩

/-- `SHLD` where neither address is protected: the two stores, the low byte first (40_data_transfer.md R118). -/
theorem execShld_of_unprotected {a16 : Word} {s : State} (h1 : Unprotected s a16) (h2 : Unprotected s (a16 + 1)) :
    execShld a16 s = finish 3
      (s.setMem (Memory.put (Memory.put s.mem a16.toNat s.regs.l) (a16 + 1).toNat s.regs.h)) := by
  unfold execShld
  rw [memWrite_of_unprotected h1, andThen_next,
    memWrite_of_unprotected (s := s.setMem (Memory.put s.mem a16.toNat s.regs.l)) h2]
  rfl

/-- Settles O13: the stores of `A` store one byte and move on; the two bytes of `SHLD` go to different addresses. -/
theorem storesWriteMemory : Obligations.StoresWriteMemory := by
  unfold Obligations.StoresWriteMemory
  refine ⟨fun a16 s hu => storesByte_of_exec rfl hu, fun s hu => storesByte_of_exec rfl hu,
    fun s hu => storesByte_of_exec rfl hu, fun a16 s h1 h2 => ?_⟩
  have hread := memRead_setMem_put_put s a16 (a16 + 1) s.regs.l s.regs.h
  have hne : a16 ≠ a16 + 1 := by bv_omega
  refine ⟨_, execShld_of_unprotected h1 h2, (hread a16).trans ?_, (hread (a16 + 1)).trans ?_,
    fun x hx => (hread x).trans ?_, rfl, rfl, rfl, rfl, by simp [ControlKept]⟩
  · rw [if_neg hne, if_pos rfl]
  · rw [if_pos rfl]
  · obtain ⟨hx1, hx2⟩ : x ≠ a16 ∧ x ≠ a16 + 1 := by simpa using hx
    rw [if_neg hx2, if_neg hx1]

end Sys2Proof.Machine
end

section
/-! PROOFS. Arithmetic (spec/41_arithmetic.md R130 to R148). -/

namespace Sys2Proof.Machine

open Sys2Proof.Claims

/-! ## A register and the flags -/

@[simp] theorem rdOp_setFlags (sel : Sel) (s : State) (f : Flags) : rdOp sel (s.setFlags f) = rdOp sel s := by
  cases sel <;> rfl

theorem regsKeptBut_setFlags {xs : List Sel} {s t : State} (h : RegsKeptBut xs s t) (f : Flags) :
    RegsKeptBut xs s (t.setFlags f) :=
  fun r hr hmem => (rdOp_setFlags r t f).trans (h r hr hmem)

/-- A handler that writes the register `dst`, then the flags, and moves on: the additions and subtractions, `INR`, `DCR`
and `DAA`. -/
theorem wrOp_setFlags_finish_of_register {dst : Sel} (hdst : dst ≠ .m) (v : Byte) (f : Flags) (n : Nat) (s : State) :
    ∃ t, (andThen (wrOp dst v s) fun u => finish n (u.setFlags f)) = .next t ∧
      rdOp dst t = v ∧ t.flags = f ∧ t.pc = s.pc + BitVec.ofNat 16 n ∧ RegsKeptBut [dst] s t ∧ OnlyRegsAndFlags s t := by
  obtain ⟨regs, hw⟩ := wrOp_of_register hdst v s
  have hval : rdOp dst (((s.setRegs regs).setFlags f).setPc (s.pc + BitVec.ofNat 16 n)) = v := by
    simpa using rdOp_of_wrOp hw
  exact ⟨_, by rw [hw]; rfl, hval, rfl, rfl, regsKeptBut_setPc (regsKeptBut_setFlags (regsKeptBut_of_wrOp hw) f) _,
    rfl, fun _ => rfl, by simp [ControlKept]⟩

/-- The case of `A`. -/
theorem setA_setFlags_finish (v : Byte) (f : Flags) (n : Nat) (s : State) :
    ∃ t, finish n ((s.setA v).setFlags f) = .next t ∧
      t.regs.a = v ∧ t.flags = f ∧ t.pc = s.pc + BitVec.ofNat 16 n ∧ RegsKeptBut [.a] s t ∧ OnlyRegsAndFlags s t :=
  wrOp_setFlags_finish_of_register (dst := .a) (by decide) v f n s

/-! ## Addition to `A` and subtraction from it -/

theorem addsToA_of_exec {i : Instr} {b : Byte} {c : Bool} {n : Nat} {s : State} (hexec : exec i s = aluAdd b c n s) :
    AddsToA i b c (BitVec.ofNat 16 n) s := by
  obtain ⟨t, ht, ha, hflags, hpc, hkept, honly⟩ :=
    setA_setFlags_finish (add8 s.regs.a b c).1 (add8 s.regs.a b c).2 n s
  refine ⟨t, hexec.trans ht, ha, ?_, ?_, ?_, hpc, hkept, honly⟩
  · rw [hflags, add8_cy]
  · rw [hflags, add8_ac]
  · rw [hflags, ha]
    exact add8_resultFlags _ _ _

theorem subtractsFromA_of_exec {i : Instr} {b : Byte} {c : Bool} {n : Nat} {s : State}
    (hexec : exec i s = aluSub b c n s) : SubtractsFromA i b c (BitVec.ofNat 16 n) s := by
  obtain ⟨t, ht, ha, hflags, hpc, hkept, honly⟩ :=
    setA_setFlags_finish (sub8 s.regs.a b c).1 (sub8 s.regs.a b c).2 n s
  refine ⟨t, hexec.trans ht, ha.trans (sub8_value _ _ _), ⟨?_, ?_, ?_⟩, hpc, hkept, honly⟩
  · rw [hflags, sub8_cy]
  · rw [hflags, sub8_ac]
  · rw [hflags, ← sub8_value]
    exact sub8_resultFlags _ _ _

/-- Settles O15: every form's handler is `aluAdd` of its operand and carry. -/
theorem additionsAddToA : Obligations.AdditionsAddToA := by
  unfold Obligations.AdditionsAddToA
  intro s
  exact ⟨fun src => addsToA_of_exec (exec_add s src), fun src => addsToA_of_exec (exec_adc s src),
    fun d8 => addsToA_of_exec rfl, fun d8 => addsToA_of_exec rfl⟩

/-- Settles O16: every form's handler is `aluSub` of its operand and borrow. -/
theorem subtractionsSubtractFromA : Obligations.SubtractionsSubtractFromA := by
  unfold Obligations.SubtractionsSubtractFromA
  intro s
  exact ⟨fun src => subtractsFromA_of_exec (exec_sub s src), fun src => subtractsFromA_of_exec (exec_sbb s src),
    fun d8 => subtractsFromA_of_exec rfl, fun d8 => subtractsFromA_of_exec rfl⟩

/-! ## Counting by one -/

/-- The outcome `x` of a count has the byte `v`, its result flags, AuxCarry by `aux`, and the Carry of `f`
(41_arithmetic.md R139, R140): what `inc8_spec` and `dec8_spec` say. -/
abbrev CountsTo (x : Byte × Flags) (v : Byte) (aux : Prop) (f : Flags) : Prop :=
  x.1 = v ∧ x.2.cy = f.cy ∧ (x.2.ac = true ↔ aux) ∧ ResultFlags v x.2

section
variable {i : Instr} {x : Byte × Flags} {v : Byte} {aux : Prop} {s : State}

/-- A register written with the outcome of a count. -/
theorem countsRegister_of_exec {r : Sel} (hr : r ≠ .m) (hx : CountsTo x v aux s.flags)
    (hexec : exec i s = andThen (wrOp r x.1 s) fun u => finish 1 (u.setFlags x.2)) :
    ∃ t, exec i s = .next t ∧
      rdOp r t = v ∧ t.flags.cy = s.flags.cy ∧ (t.flags.ac = true ↔ aux) ∧
      ResultFlags v t.flags ∧ t.pc = s.pc + 1 ∧ RegsKeptBut [r] s t ∧ OnlyRegsAndFlags s t := by
  obtain ⟨hv, hcy, hac, hresult⟩ := hx
  obtain ⟨t, ht, hval, hflags, hpc, hkept, honly⟩ := wrOp_setFlags_finish_of_register hr x.1 x.2 1 s
  exact ⟨t, hexec.trans ht, hval.trans hv, hflags ▸ hcy, hflags ▸ hac, hflags ▸ hresult, hpc, hkept, honly⟩

/-- The byte at an unprotected `HL` written with the outcome of a count. -/
theorem countsMemory_of_exec (hu : Unprotected s s.hl) (hx : CountsTo x v aux s.flags)
    (hexec : exec i s = andThen (wrOp .m x.1 s) fun u => finish 1 (u.setFlags x.2)) :
    ∃ t, exec i s = .next t ∧
      memRead s.hl t = v ∧ MemKeptBut [s.hl] s t ∧ t.flags.cy = s.flags.cy ∧ (t.flags.ac = true ↔ aux) ∧
      ResultFlags v t.flags ∧ t.regs = s.regs ∧ t.sp = s.sp ∧ t.pc = s.pc + 1 ∧ ControlKept s t := by
  obtain ⟨rfl, hcy, hac, hresult⟩ := hx
  rw [wrOp, memWrite_of_unprotected hu, andThen_next, finish_eq] at hexec
  have hread := memRead_setMem_put s s.hl x.1
  refine ⟨_, hexec, (hread s.hl).trans ?_, fun y hy => (hread y).trans ?_, hcy, hac, hresult, rfl, rfl, rfl,
    by simp [ControlKept]⟩
  · rw [if_pos rfl]
  · rw [if_neg (by simpa using hy)]

end

/-- Settles O17: both write the register with the outcome of a count. -/
theorem inrAndDcrOnRegisters : Obligations.InrAndDcrOnRegisters := by
  unfold Obligations.InrAndDcrOnRegisters
  intro r s hr
  exact ⟨countsRegister_of_exec hr (inc8_spec _ _) (exec_inr s r),
    countsRegister_of_exec hr (dec8_spec _ _) (exec_dcr s r)⟩

/-- Settles O18: both write the byte at `HL` with the outcome of a count. -/
theorem inrAndDcrOnMemory : Obligations.InrAndDcrOnMemory := by
  unfold Obligations.InrAndDcrOnMemory
  intro s hu
  exact ⟨countsMemory_of_exec hu (inc8_spec _ _) (exec_inr s .m),
    countsMemory_of_exec hu (dec8_spec _ _) (exec_dcr s .m)⟩

/-! ## Pairs -/

/-- An instruction of one byte whose handler writes a pair and moves on. -/
theorem writesPair_of_exec {i : Instr} {p : Pair} {v : Word} {s : State} (hexec : exec i s = finish 1 (wrPair p v s)) :
    ∃ t, exec i s = .next t ∧
      rdPair p t = v ∧ (∀ q, q ≠ p → rdPair q t = rdPair q s) ∧ t.regs.a = s.regs.a ∧ t.flags = s.flags ∧
      t.pc = s.pc + 1 ∧ MemKept s t ∧ ControlKept s t := by
  obtain ⟨⟨-, hcontrol⟩, hflags⟩ := (wrPair_quiet s p v).thenFinish 1 _ rfl
  refine ⟨_, hexec, ?_, fun q hq => ?_, wrPair_a p v s, hflags, ?_, memRead_congr (wrPair_mem p v s), hcontrol⟩
  · simp [rdPair_wrPair]
  · simp [rdPair_wrPair, hq]
  · simp

/-- Settles O19: both write the pair, counted by one. -/
theorem inxAndDcxCountPairs : Obligations.InxAndDcxCountPairs := by
  unfold Obligations.InxAndDcxCountPairs
  intro p s
  exact ⟨writesPair_of_exec (exec_inx s p), writesPair_of_exec (exec_dcx s p)⟩

/-- The carry out of the top bit of a sum. -/
theorem add_testBit_iff {x y k : Nat} (hx : x < 2 ^ k) (hy : y < 2 ^ k) : (x + y).testBit k = true ↔ 2 ^ k ≤ x + y := by
  have hlt : x + y < 2 ^ (k + 1) := by omega
  exact ⟨Nat.ge_two_pow_of_testBit, fun h => Nat.testBit_of_two_pow_le_and_two_pow_add_one_gt h hlt⟩

/-- Settles O20: the sum is written to `HL`, and of the flags only Carry, its bit 16. -/
theorem dadAddsToHl : Obligations.DadAddsToHl := by
  unfold Obligations.DadAddsToHl
  intro p s
  obtain ⟨hframe, -⟩ := dadOp_frame s p _ rfl
  refine ⟨_, exec_dad s p, ?_, add_testBit_iff s.hl.isLt (rdPair p s).isLt, rfl,
    regsKeptBut_setPc (regsKeptBut_setFlags (regsKeptBut_setHl _ s) _) _, rfl, rfl, fun _ => rfl, hframe.control⟩
  calc
    _ = BitVec.ofNat 16 (s.hl.toNat + (rdPair p s).toNat) := State.setHl_hl s _
    _ = s.hl + rdPair p s := by simp [BitVec.ofNat_add]

/-! ## Decimal adjust -/

/-- The first correction (41_arithmetic.md R146). -/
theorem daaLow_spec (a : Byte) (f : Flags) :
    let low : Prop := 9 < a.toNat % 16 ∨ f.ac = true
    (low → (daaLow a f).1 = a + 0x06) ∧ (¬low → (daaLow a f).1 = a) ∧
      ((daaLow a f).2.ac = true ↔ low ∧ 15 < a.toNat % 16 + 6) ∧
      ((daaLow a f).2.cy = true ↔ f.cy = true ∨ (low ∧ 256 ≤ a.toNat + 6)) := by
  intro low
  by_cases h : low
  · have hcarry : (a.toNat + 6).testBit 8 = true ↔ 256 ≤ a.toNat + 6 :=
      add_testBit_iff a.isLt (by decide)
    have hdaa : daaLow a f = _ := if_pos h
    simp [hdaa, h, hcarry, BitVec.ofNat_add]
  · have hdaa : daaLow a f = _ := if_neg h
    simp [hdaa, h]

/-- The second correction (41_arithmetic.md R146). -/
theorem daaHigh_spec (a : Byte) (f : Flags) :
    (daaHigh a f).2.ac = f.ac ∧ ((daaHigh a f).2.cy = true ↔ f.cy = true ∨ 9 < a.toNat / 16) ∧
      (daaHigh a f).1 = if (daaHigh a f).2.cy then a + 0x60 else a := by
  by_cases h : a.toNat / 16 > 9 ∨ f.cy = true
  · have hdaa : daaHigh a f = _ := if_pos h
    simp [hdaa, h.symm]
  · have hdaa : daaHigh a f = _ := if_neg h
    obtain ⟨hdigit, hcy⟩ := not_or.mp h
    simp [hdaa, hdigit, hcy]

/-- Settles O21: the byte between the two corrections is what the first one gives. -/
theorem daaAdjustsA : Obligations.DaaAdjustsA := by
  unfold Obligations.DaaAdjustsA
  intro s a low
  obtain ⟨t, ht, ha, hflags, hpc, hkept, honly⟩ :=
    setA_setFlags_finish (daa8 a s.flags).1 (daa8 a s.flags).2 1 s
  obtain ⟨hlow, hnot, hac, hcy⟩ := daaLow_spec a s.flags
  obtain ⟨hac', hcy', hadd⟩ := daaHigh_spec (daaLow a s.flags).1 (daaLow a s.flags).2
  refine ⟨t, (daaLow a s.flags).1, ht, hlow, hnot, ?_, ?_, ?_, ?_, hpc, hkept, honly⟩
  · rw [hflags, ← hac, ← hac']
    rfl
  · rw [hflags, ← or_assoc, ← hcy, ← hcy']
    rfl
  · rw [ha, hflags]
    exact hadd
  · rw [hflags, ha]
    exact szp_resultFlags _ _

/-! ## Decimal addition -/

/-- The packed number, from its digits. -/
theorem bcd_digits (tens : Nat) {ones : Nat} (h : ones < 10) :
    bcd (10 * tens + ones) = BitVec.ofNat 8 (16 * tens + ones) := by
  unfold bcd
  congr 1
  omega

theorem bcd_toNat {n : Nat} (hn : n < 100) : (bcd n).toNat = n / 10 * 16 + n % 10 := by
  rw [bcd, BitVec.toNat_ofNat]
  omega

/-- `DAA` after an addition of decimal digits, with `tens` the sum of the tens and `ones` that of the ones: the first
correction carries ten ones into the tens, the second ten tens into Carry. -/
theorem daa_of_digit_sums {tens ones : Nat} (htens : tens ≤ 18) (hones : ones ≤ 19) {t : State}
    (ha : t.regs.a = BitVec.ofNat 8 (16 * tens + ones)) (hac : t.flags.ac = true ↔ 16 ≤ ones)
    (hcy : t.flags.cy = true ↔ 256 ≤ 16 * tens + ones) :
    ∃ u, exec .daa t = .next u ∧ u.regs.a = bcd ((10 * tens + ones) % 100) ∧
      (u.flags.cy = true ↔ 100 ≤ 10 * tens + ones) := by
  obtain ⟨u, a1, hu, hlow, hnot, -, hcy', ha', -⟩ := daaAdjustsA t
  have hval : t.regs.a.toNat = (16 * tens + ones) % 256 := by rw [ha, BitVec.toNat_ofNat]
  have hten : (9 < t.regs.a.toNat % 16 ∨ t.flags.ac = true) ↔ 10 ≤ ones := by
    rw [hac, hval]
    omega
  rw [hten] at hlow hnot hcy'
  have hsix : (0x06 : Byte).toNat = 6 := rfl
  have hsixty : (0x60 : Byte).toNat = 96 := rfl
  have hfirst : a1.toNat = (16 * (tens + ones / 10) + ones % 10) % 256 := by
    by_cases h10 : 10 ≤ ones
    · rw [hlow h10, BitVec.toNat_add, hval, hsix]
      omega
    · rw [hnot h10, hval]
      omega
  have hhundred : u.flags.cy = true ↔ 100 ≤ 10 * tens + ones := by
    rw [hcy', hcy, hfirst, hval]
    omega
  refine ⟨u, hu, BitVec.eq_of_toNat_eq ?_, hhundred⟩
  by_cases h100 : 100 ≤ 10 * tens + ones
  · have hrest : (10 * tens + ones) % 100 = 10 * (tens + ones / 10 - 10) + ones % 10 := by omega
    rw [ha', if_pos (hhundred.mpr h100), hrest, bcd_digits _ (by omega), BitVec.toNat_add, hfirst, hsixty,
      BitVec.toNat_ofNat]
    omega
  · have hrest : (10 * tens + ones) % 100 = 10 * (tens + ones / 10) + ones % 10 := by omega
    rw [ha', if_neg (mt hhundred.mp h100), hrest, bcd_digits _ (by omega), hfirst, BitVec.toNat_ofNat]

/-- Settles O22: `ADC` adds the digits in place, and `DAA` carries between them. -/
theorem adcThenDaaIsDecimalAddition : Obligations.AdcThenDaaIsDecimalAddition := by
  unfold Obligations.AdcThenDaaIsDecimalAddition
  intro x y s hx hy ha hb
  obtain ⟨-, hadc, -⟩ := additionsAddToA s
  obtain ⟨t, ht, hta, htcy, htac, -⟩ := hadc .b
  have hc := s.flags.cy.toNat_le
  have hxa : s.regs.a.toNat = x / 10 * 16 + x % 10 := by rw [ha, bcd_toNat hx]
  have hyb : (rdOp .b s).toNat = y / 10 * 16 + y % 10 := by rw [rdOp, hb, bcd_toNat hy]
  rw [hxa, hyb] at hta htcy htac
  have hsum : x + y + s.flags.cy.toNat = 10 * (x / 10 + y / 10) + (x % 10 + y % 10 + s.flags.cy.toNat) := by omega
  obtain ⟨u, hu, hua, hucy⟩ := daa_of_digit_sums (tens := x / 10 + y / 10) (ones := x % 10 + y % 10 + s.flags.cy.toNat)
    (by omega) (by omega) (hta.trans (congrArg _ (by omega))) (htac.trans (by omega)) (htcy.trans (by omega))
  exact ⟨t, u, ht, hu, hsum ▸ hua, hsum ▸ hucy⟩

/-! ## Round trips -/

/-- A frame that leaves every register but `A`, and memory, leaves every operand but `A`. -/
theorem rdOp_of_onlyA {src : Sel} (hsrc : src ≠ .a) {s t : State} (hkept : RegsKeptBut [.a] s t) (hmem : MemKept s t) :
    rdOp src t = rdOp src s := by
  cases src with
  | a => exact absurd rfl hsrc
  | m =>
    have hhl : t.hl = s.hl := congrArg₂ wordOf (hkept .h (by decide) (by decide)) (hkept .l (by decide) (by decide))
    exact (congrArg (memRead · t) hhl).trans (hmem s.hl)
  | b | c | d | e | h | l => exact hkept _ (by decide) (by decide)

/-- Seven registers that read the same are the same registers. -/
theorem regs_eq_of_rdOp {s t : State} (h : ∀ r : Sel, r ≠ .m → rdOp r t = rdOp r s) : t.regs = s.regs := by
  have ha : t.regs.a = s.regs.a := h .a (by decide)
  have hb : t.regs.b = s.regs.b := h .b (by decide)
  have hc : t.regs.c = s.regs.c := h .c (by decide)
  have hd : t.regs.d = s.regs.d := h .d (by decide)
  have he : t.regs.e = s.regs.e := h .e (by decide)
  have hh : t.regs.h = s.regs.h := h .h (by decide)
  have hl : t.regs.l = s.regs.l := h .l (by decide)
  calc t.regs
    _ = ⟨t.regs.a, t.regs.b, t.regs.c, t.regs.d, t.regs.e, t.regs.h, t.regs.l⟩ := rfl
    _ = s.regs := by rw [ha, hb, hc, hd, he, hh, hl]

/-- Where every register but `A` is kept, `A` decides about all of them. -/
theorem regs_of_onlyA {s t : State} (hkept : RegsKeptBut [.a] s t) {v : Byte} (ha : t.regs.a = v) :
    t.regs = { s.regs with a := v } :=
  regs_eq_of_rdOp (s := s.setA v) fun r hm => by
    by_cases hr : r = .a
    · exact hr ▸ ha
    · exact (hkept r hm (by simpa using hr)).trans (regsKeptBut_of_wrOp (dst := .a) rfl r hm (by simpa using hr)).symm

/-- Words from the same two bytes only. -/
theorem wordOf_inj {hi lo hi' lo' : Byte} : wordOf hi lo = wordOf hi' lo' ↔ hi = hi' ∧ lo = lo' := by
  refine ⟨fun h => ⟨?_, ?_⟩, fun ⟨hhi, hlo⟩ => hhi ▸ hlo ▸ rfl⟩
  · simpa using congrArg hiByte h
  · simpa using congrArg loByte h

/-- `A` and the pairs are all the registers there are. -/
theorem regs_eq_of_rdPair {s t : State} (ha : t.regs.a = s.regs.a) (h : ∀ p, rdPair p t = rdPair p s) :
    t.regs = s.regs := by
  obtain ⟨hb, hc⟩ := wordOf_inj.mp (h .bc)
  obtain ⟨hd, he⟩ := wordOf_inj.mp (h .de)
  obtain ⟨hh, hl⟩ := wordOf_inj.mp (h .hl)
  refine regs_eq_of_rdOp fun r hm => ?_
  cases r with
  | m => exact absurd rfl hm
  | a => exact ha
  | b => exact hb
  | c => exact hc
  | d => exact hd
  | e => exact he
  | h => exact hh
  | l => exact hl

/-- What an addition without carry leaves in the state it answers. -/
theorem addsToA_next {i : Instr} {b : Byte} {len : Word} {s t : State} (hadd : AddsToA i b false len s)
    (ht : exec i s = .next t) : t.regs.a = s.regs.a + b ∧ RegsKeptBut [.a] s t ∧ MemKept s t := by
  obtain ⟨t', ht', ha, -, -, -, -, hkept, -, hmem, -⟩ := hadd
  obtain rfl : t' = t := Host.Outcome.next.inj (ht'.symm.trans ht)
  exact ⟨by simpa [BitVec.ofNat_add] using ha, hkept, hmem⟩

/-- A subtraction without borrow, after an instruction that wrote no register but `A`. -/
theorem subtractsFromA_after_onlyA {i : Instr} {b : Byte} {len : Word} {s t : State} (hkept : RegsKeptBut [.a] s t)
    (hsub : SubtractsFromA i b false len t) :
    ∃ u, exec i t = .next u ∧ u.regs = { s.regs with a := t.regs.a - b } := by
  obtain ⟨u, hu, ha, -, -, hkept', -⟩ := hsub
  exact ⟨u, hu, regs_of_onlyA (regsKeptBut_trans hkept hkept' (by simp) (by simp)) (by simpa using ha)⟩

/-- `ADD` and then `SUB` of an operand; `SUB A` takes the sum from itself. -/
theorem sub_after_add {src : Sel} {s t : State} (ht : exec (aluInstr .add src) s = .next t) :
    ∃ u, exec (aluInstr .sub src) t = .next u ∧
      u.regs = if src = .a then { s.regs with a := 0x00 } else s.regs := by
  obtain ⟨hadd, -⟩ := additionsAddToA s
  obtain ⟨hsub, -⟩ := subtractionsSubtractFromA t
  obtain ⟨ha, hkept, hmem⟩ := addsToA_next (hadd src) ht
  obtain ⟨u, hu, hregs⟩ := subtractsFromA_after_onlyA hkept (hsub src)
  refine ⟨u, hu, ?_⟩
  by_cases hsrc : src = .a
  · have hzero : t.regs.a - rdOp src t = 0x00 := hsrc ▸ BitVec.sub_self t.regs.a
    rw [hregs, if_pos hsrc, hzero]
  · rw [hregs, if_neg hsrc, rdOp_of_onlyA hsrc hkept hmem, ha, BitVec.add_sub_cancel]

/-- `ADI` and then `SUI` of a byte. -/
theorem sui_after_adi {d8 : Byte} {s t : State} (ht : exec (.adi d8) s = .next t) :
    ∃ u, exec (.sui d8) t = .next u ∧ u.regs = s.regs := by
  obtain ⟨-, -, hadi, -⟩ := additionsAddToA s
  obtain ⟨-, -, hsui, -⟩ := subtractionsSubtractFromA t
  obtain ⟨ha, hkept, -⟩ := addsToA_next (hadi d8) ht
  obtain ⟨u, hu, hregs⟩ := subtractsFromA_after_onlyA hkept (hsui d8)
  exact ⟨u, hu, by rw [hregs, ha, BitVec.add_sub_cancel]⟩

/-- `DCX` after `INX` of a pair. -/
theorem dcx_after_inx {p : Pair} {s t : State} (ht : exec (inxInstr p) s = .next t) :
    ∃ u, exec (dcxInstr p) t = .next u ∧ u.regs = s.regs ∧ u.sp = s.sp ∧ u.flags = s.flags := by
  obtain ⟨⟨t', ht', hinx, hothers, ha, hflags, -⟩, -⟩ := inxAndDcxCountPairs p s
  obtain rfl : t' = t := Host.Outcome.next.inj (ht'.symm.trans ht)
  obtain ⟨-, u, hu, hdcx, hothers', ha', hflags', -⟩ := inxAndDcxCountPairs p t'
  have hpairs (q : Pair) : rdPair q u = rdPair q s := by
    by_cases hq : q = p
    · rw [hq, hdcx, hinx, BitVec.add_sub_cancel]
    · exact (hothers' q hq).trans (hothers q hq)
  exact ⟨u, hu, regs_eq_of_rdPair (ha'.trans ha) hpairs, hpairs .sp, hflags'.trans hflags⟩

/-- Settles O23: the registers after both instructions are those before the first. -/
theorem arithmeticRoundTrips : Obligations.ArithmeticRoundTrips := by
  unfold Obligations.ArithmeticRoundTrips
  exact ⟨fun _ _ _ => sub_after_add, fun _ _ _ => sui_after_adi, fun _ _ _ => dcx_after_inx⟩

end Sys2Proof.Machine
end

section
/-! PROOFS. Logical, compare, rotate and Carry instructions (spec/42_logical_rotate.md R160 to R176). -/

namespace Sys2Proof.Machine

open Sys2Proof.Claims

/-! ## Logical operations -/

/-- An instruction whose handler is `aluLogic` of a function that leaves the result `v` with AuxCarry `ac`. -/
theorem logicToA_of_exec {i : Instr} {f : Byte → Byte → Byte × Flags} {b v : Byte} {ac : Bool} {n : Nat} {s : State}
    (hexec : exec i s = aluLogic f b n s) (hf : f s.regs.a b = (v, logicFlags v ac)) :
    LogicToA i v ac (BitVec.ofNat 16 n) s := by
  obtain ⟨t, ht, ha, hflags, hpc, hkept, honly⟩ := setA_setFlags_finish v (logicFlags v ac) n s
  have hlogic : exec i s = finish n ((s.setA v).setFlags (logicFlags v ac)) := by rw [hexec, aluLogic, hf]
  refine ⟨t, hlogic.trans ht, ha, ?_, ?_, ?_, hpc, hkept, honly⟩
  · rw [hflags, logicFlags, szp_cy]
  · rw [hflags, logicFlags, szp_ac]
  · rw [hflags]
    exact szp_resultFlags v _

/-- Settles O24: every form's handler is `aluLogic` of its operand. -/
theorem logicalOperationsWriteA : Obligations.LogicalOperationsWriteA := by
  unfold Obligations.LogicalOperationsWriteA
  intro s
  exact ⟨fun src => logicToA_of_exec (exec_ana s src) rfl, fun d8 => logicToA_of_exec (f := and8) rfl rfl,
    fun src => logicToA_of_exec (exec_xra s src) rfl, fun d8 => logicToA_of_exec (f := xor8) rfl rfl,
    fun src => logicToA_of_exec (exec_ora s src) rfl, fun d8 => logicToA_of_exec (f := or8) rfl rfl⟩

/-! ## Flags alone: compares, `STC` and `CMC` -/

/-- An instruction whose handler writes the flags and moves on. -/
theorem writesFlags_of_exec {i : Instr} {f : Flags} {n : Nat} {s : State} (hexec : exec i s = finish n (s.setFlags f)) :
    ∃ t, exec i s = .next t ∧
      t.flags = f ∧ t.regs = s.regs ∧ t.pc = s.pc + BitVec.ofNat 16 n ∧ OnlyRegsAndFlags s t :=
  ⟨_, hexec, rfl, rfl, rfl, rfl, fun _ => rfl, by simp [ControlKept]⟩

/-- The flags of `sub8` are those of the subtraction (41_arithmetic.md R130). -/
theorem sub8_subtractionFlags (a b : Byte) (c : Bool) : SubtractionFlags a b c (sub8 a b c).2 :=
  ⟨sub8_cy a b c, sub8_ac a b c, sub8_value a b c ▸ sub8_resultFlags a b c⟩

/-- An instruction whose handler is `aluCompare`: Zero says that the difference is 0, so that both operands are equal. -/
theorem comparesWithA_of_exec {i : Instr} {b : Byte} {n : Nat} {s : State} (hexec : exec i s = aluCompare b n s) :
    ComparesWithA i b (BitVec.ofNat 16 n) s := by
  obtain ⟨t, ht, hflags, hregs, hpc, honly⟩ := writesFlags_of_exec hexec
  have hsub : SubtractionFlags s.regs.a b false t.flags := hflags ▸ sub8_subtractionFlags s.regs.a b false
  have ⟨_, _, hzero, _⟩ := hsub
  have hequal : s.regs.a - b - BitVec.ofNat 8 false.toNat = 0 ↔ s.regs.a = b := by
    rw [Bool.toNat_false, BitVec.sub_zero]
    exact sub_eq_zero
  exact ⟨t, ht, hsub, hzero.trans hequal, hregs, hpc, honly⟩

/-- Settles O25: every form's handler is `aluCompare` of its operand. -/
theorem comparesWriteFlagsOnly : Obligations.ComparesWriteFlagsOnly := by
  unfold Obligations.ComparesWriteFlagsOnly
  intro s
  exact ⟨fun src => comparesWithA_of_exec (exec_cmp s src), fun d8 => comparesWithA_of_exec rfl⟩

/-- Settles O27: the complement is the exclusive-or with all ones; `STC` and `CMC` write the flags alone. -/
theorem cmaStcCmc : Obligations.CmaStcCmc := by
  unfold Obligations.CmaStcCmc
  intro s
  have hcma : exec .cma s = finish 1 (s.setA (s.regs.a ^^^ 0xFF)) :=
    congrArg (fun v => finish 1 (s.setA v)) BitVec.xor_allOnes.symm
  exact ⟨loadsA_of_exec hcma, writesFlags_of_exec rfl, writesFlags_of_exec rfl⟩

/-! ## Rotates -/

/-- An instruction whose handler is `rotateOp` of a result byte, said bit by bit, and a Carry. -/
theorem rotates_of_exec {i : Instr} {r : Byte × Bool} {bit : Nat → Bool} {s : State} (hexec : exec i s = rotateOp r s)
    (hbit : ∀ k, k < 8 → r.1.getLsbD k = bit k) : Rotates i bit r.2 s := by
  obtain ⟨t, ht, ha, hflags, hpc, hkept, honly⟩ := setA_setFlags_finish r.1 { s.flags with cy := r.2 } 1 s
  exact ⟨t, hexec.trans ht, ha ▸ hbit, hflags, hpc, hkept, honly⟩

/-- Settles O26: every rotate's handler is `rotateOp` of its result byte, whose bits are those of the rule. -/
theorem rotatesMoveBits : Obligations.RotatesMoveBits := by
  unfold Obligations.RotatesMoveBits
  intro s
  exact ⟨rotates_of_exec rfl fun _ => rotLeft_bit s.regs.a, rotates_of_exec rfl fun _ => rotRight_bit s.regs.a,
    rotates_of_exec rfl fun _ => rotLeftCarry_bit s.regs.a s.flags.cy,
    rotates_of_exec rfl fun _ => rotRightCarry_bit s.regs.a s.flags.cy⟩

end Sys2Proof.Machine
end

section
/-! PROOFS. Stack instructions (spec/43_stack.md R190 to R196). -/

namespace Sys2Proof.Machine

open Sys2Proof.Claims

/-! ## Two stores -/

/-- Two unprotected stores answer a next state, and the handler goes on from it. -/
theorem memWrite_memWrite_of_unprotected {a1 a2 : Word} {s : State} (h1 : Unprotected s a1) (h2 : Unprotected s a2)
    (v1 v2 : Byte) (k : State → Result) :
    (andThen (memWrite a1 v1 s) fun u => andThen (memWrite a2 v2 u) k) =
      k (s.setMem (Memory.put (Memory.put s.mem a1.toNat v1) a2.toNat v2)) := by
  rw [memWrite_of_unprotected h1, andThen_next,
    memWrite_of_unprotected (s := s.setMem (Memory.put s.mem a1.toNat v1)) h2]
  rfl

/-- Two stores at different addresses both read back, and every other byte is kept. -/
theorem memRead_of_two_stores {a1 a2 : Word} (hne : a1 ≠ a2) (v1 v2 : Byte) (s : State) :
    let t := s.setMem (Memory.put (Memory.put s.mem a1.toNat v1) a2.toNat v2)
    memRead a1 t = v1 ∧ memRead a2 t = v2 ∧ MemKeptBut [a1, a2] s t := by
  have hread := memRead_setMem_put_put s a1 a2 v1 v2
  refine ⟨(hread a1).trans ?_, (hread a2).trans ?_, fun x hx => (hread x).trans ?_⟩
  · rw [if_neg hne, if_pos rfl]
  · rw [if_pos rfl]
  · obtain ⟨hx1, hx2⟩ : x ≠ a1 ∧ x ≠ a2 := by simpa using hx
    rw [if_neg hx2, if_neg hx1]

/-! ## `PUSH` -/

/-- What a push that answers a next state leaves in it. -/
theorem push16_spec {v : Word} {s t : State} (h : push16 v s = .next t) :
    memRead (s.sp - 1) t = hiByte v ∧ memRead (s.sp - 2) t = loByte v ∧ MemKeptBut [s.sp - 1, s.sp - 2] s t ∧
      t.sp = s.sp - 2 ∧ t.pc = s.pc ∧ t.regs = s.regs := by
  obtain ⟨-, -, rfl⟩ := push16_eq_next h
  obtain ⟨hhi, hlo, hkept⟩ := memRead_of_two_stores (sub_two_ne_sub_one s.sp).symm (hiByte v) (loByte v) s
  exact ⟨hhi, hlo, hkept, rfl, rfl, rfl⟩

/-- The word pushed is on top of the stack (20_memory.md R58, R59), wherever `SP` is. -/
theorem stackTop_of_push16 {v : Word} {s t : State} (h : push16 v s = .next t) : stackTop t = v := by
  obtain ⟨hhi, hlo, -, hsp, -, -⟩ := push16_spec h
  have hnext : s.sp - 2 + 1 = s.sp - 1 := by bv_omega
  rw [stackTop, hsp, hnext, hhi, hlo, wordOf_hiByte_loByte]

/-- Where the two cells below `SP` are not protected, a push that then writes `PC` changes nothing else. -/
theorem callTo_of_unprotected {s : State} (h1 : Unprotected s (s.sp - 1)) (h2 : Unprotected s (s.sp - 2))
    (v target : Word) : PushesAndGoes (callTo v target s) v target s := by
  obtain ⟨u, hpush⟩ : ∃ u, push16 v s = .next u := ⟨_, push16_of_unprotected h1 h2 v⟩
  obtain ⟨hhi, hlo, hkept, hsp, -, hregs⟩ := push16_spec hpush
  obtain ⟨⟨-, hcontrol⟩, hflags⟩ := push16_quiet s v u hpush
  exact ⟨u.setPc target, by rw [callTo, hpush, andThen_next], hhi, hlo, hkept, hsp, rfl, hregs, hflags, hcontrol⟩

/-- Pushing leaves `PC`, so `PUSH` is a push that goes to the next instruction. -/
theorem pushOp_eq_callTo (p : StackPair) (s : State) : pushOp p s = callTo (rdStackPair p s) (s.pc + 1) s := by
  unfold pushOp callTo
  rcases push16_cases (rdStackPair p s) s with ⟨r, -, e⟩ | ⟨r, -, -, e⟩ | ⟨-, -, e⟩ <;> rw [e] <;> rfl

/-- Settles O29: `PUSH` stores the word of its pair and goes to the next instruction. -/
theorem pushStoresPair : Obligations.PushStoresPair := by
  unfold Obligations.PushStoresPair
  intro p s h1 h2
  rw [exec_push, pushOp_eq_callTo]
  exact callTo_of_unprotected h1 h2 _ _

/-! ## `POP` -/

/-- Which registers are kept is seen in the registers alone. -/
theorem regsKeptBut_of_regs_eq {xs : List Sel} {s t u : State} (h : RegsKeptBut xs s t) (hregs : u.regs = t.regs) :
    RegsKeptBut xs s u := by
  intro r hr hmem
  rw [← h r hr hmem]
  cases r with
  | m => exact absurd rfl hr
  | b | c | d | e | h | l | a => simp only [rdOp, hregs]

section
variable (p q : StackPair) (v : Word) (s : State)

@[simp] theorem rdStackPair_setPc : rdStackPair p (s.setPc v) = rdStackPair p s := by cases p <;> rfl
@[simp] theorem rdStackPair_setSp : rdStackPair p (s.setSp v) = rdStackPair p s := by cases p <;> rfl
@[simp] theorem rdStackPair_dropTop : rdStackPair p (dropTop s) = rdStackPair p s := rdStackPair_setSp p (s.sp + 2) s

@[simp] theorem wrStackPair_pc : (wrStackPair p v s).pc = s.pc := by cases p <;> rfl
@[simp] theorem wrStackPair_sp : (wrStackPair p v s).sp = s.sp := by cases p <;> rfl
@[simp] theorem wrStackPair_mem : (wrStackPair p v s).mem = s.mem := by cases p <;> rfl

variable {p q}

/-- A register pair written reads back; the PSW may not, because three bits of its low byte hold no flag. -/
theorem rdStackPair_wrStackPair_same (hp : p ≠ .psw) : rdStackPair p (wrStackPair p v s) = v := by
  cases p with
  | psw => exact absurd rfl hp
  | bc | de | hl => exact wordOf_hiByte_loByte v

/-- A pair written leaves the others. -/
theorem rdStackPair_wrStackPair_of_ne (hq : q ≠ p) : rdStackPair q (wrStackPair p v s) = rdStackPair q s := by
  cases p <;> cases q <;> simp at hq <;> rfl

/-- A pair written back as it was read changes nothing; the PSW, because unpacking undoes packing. -/
theorem wrStackPair_rdStackPair : wrStackPair p (rdStackPair p s) s = s := by
  cases p with
  | bc => simp [wrStackPair, rdStackPair, State.setBc, State.bc, State.setB, State.setC, State.setRegs]
  | de => simp [wrStackPair, rdStackPair, State.setDe, State.de, State.setD, State.setE, State.setRegs]
  | hl => simp [wrStackPair, rdStackPair, State.setHl, State.hl, State.setH, State.setL, State.setRegs]
  | psw => simp [wrStackPair, rdStackPair, unpack_pack, State.setFlags, State.setA, State.setRegs]

end

/-- `POP` drops the word on top of the stack, writes it to its pair, and goes to the next instruction. -/
theorem popOp_eq (p : StackPair) (s : State) :
    popOp p s = .next ((wrStackPair p (stackTop s) (dropTop s)).setPc (s.pc + 1)) := by
  simp [popOp]

/-- `POP` of a register pair (43_stack.md R192). -/
theorem pop_pair {p : StackPair} (hp : p ≠ .psw) (s : State) :
    ∃ t, exec (popInstr p) s = .next t ∧
      rdStackPair p t = stackTop s ∧ (∀ q, q ≠ p → rdStackPair q t = rdStackPair q s) ∧ t.flags = s.flags ∧
      t.sp = s.sp + 2 ∧ t.pc = s.pc + 1 ∧ MemKept s t ∧ ControlKept s t := by
  obtain ⟨⟨-, hcontrol⟩, hflags⟩ := popOp_quiet s hp _ (popOp_eq p s)
  refine ⟨_, (exec_pop s p).trans (popOp_eq p s), ?_, fun q hq => ?_, hflags, ?_, rfl, memRead_congr ?_, hcontrol⟩
  · rw [rdStackPair_setPc, rdStackPair_wrStackPair_same _ _ hp]
  · rw [rdStackPair_setPc, rdStackPair_wrStackPair_of_ne _ _ hq, rdStackPair_dropTop]
  · simp
  · simp

/-- `POP PSW` (43_stack.md R193). -/
theorem pop_psw (s : State) :
    ∃ t, exec .popPSW s = .next t ∧
      t.regs.a = memRead (s.sp + 1) s ∧ t.flags = unpack (memRead s.sp s) ∧
      RegsKeptBut [.a] s t ∧ t.sp = s.sp + 2 ∧ t.pc = s.pc + 1 ∧ MemKept s t ∧ ControlKept s t := by
  have hexec : exec .popPSW s = _ := popOp_eq .psw s
  have hkept : RegsKeptBut [.a] s (s.setA (hiByte (stackTop s))) := regsKeptBut_of_wrOp (dst := .a) rfl
  exact ⟨_, hexec, hiByte_wordOf _ _, congrArg unpack (loByte_wordOf _ _), regsKeptBut_of_regs_eq hkept rfl, rfl, rfl,
    fun _ => rfl, (popOp_psw_frame s _ hexec).control⟩

/-- Settles O30: the word popped goes into the pair, or its two bytes into `A` and the flags. -/
theorem popLoadsPairOrPsw : Obligations.PopLoadsPairOrPsw := by
  unfold Obligations.PopLoadsPairOrPsw
  refine ⟨fun p s hp => pop_pair hp s, fun s => ?_⟩
  obtain ⟨t, ht, ha, hflags, hrest⟩ := pop_psw s
  exact ⟨t, ht, ha, congrArg Flags.s hflags, congrArg Flags.z hflags, congrArg Flags.ac hflags,
    congrArg Flags.p hflags, congrArg Flags.cy hflags, hrest⟩

/-! ## `PUSH` and then `POP` -/

/-- Equal registers and flags make equal pairs. -/
theorem rdStackPair_congr {s t : State} (hregs : t.regs = s.regs) (hflags : t.flags = s.flags) (p : StackPair) :
    rdStackPair p t = rdStackPair p s := by
  cases p <;> simp [rdStackPair, State.bc, State.de, State.hl, hregs, hflags]

/-- `POP` of a pair that is on top of the stack as it stands drops it and changes nothing else. -/
theorem popOp_of_stackTop {p : StackPair} {s : State} (h : stackTop s = rdStackPair p s) :
    popOp p s = .next ((dropTop s).setPc (s.pc + 1)) := by
  rw [popOp_eq, h, ← rdStackPair_dropTop, wrStackPair_rdStackPair]

/-- Settles O31: the pair pushed is on top of the stack, so `POP` writes it back as it is. -/
theorem popUndoesPush : Obligations.PopUndoesPush := by
  unfold Obligations.PopUndoesPush
  intro p s t ht
  rw [exec_push] at ht
  obtain ⟨u, hpush, hfinish⟩ := andThen_eq_next_iff.mp ht
  obtain rfl : u.setPc (u.pc + 1) = t := Host.Outcome.next.inj hfinish
  obtain ⟨-, -, -, hsp, -, hregs⟩ := push16_spec hpush
  have hflags := (push16_quiet s _ u hpush).flags
  have htop : stackTop (u.setPc (u.pc + 1)) = rdStackPair p (u.setPc (u.pc + 1)) :=
    (stackTop_of_push16 hpush).trans (rdStackPair_congr hregs hflags p).symm
  refine ⟨_, (exec_pop _ p).trans (popOp_of_stackTop htop), hregs, hflags, ?_⟩
  calc u.sp + 2
    _ = s.sp - 2 + 2 := by rw [hsp]
    _ = s.sp := BitVec.sub_add_cancel _ _

/-! ## `XTHL` -/

/-- `XTHL` where neither cell is protected: both bytes of the word are read before they are stored over. -/
theorem execXthl_of_unprotected {s : State} (h1 : Unprotected s s.sp) (h2 : Unprotected s (s.sp + 1)) :
    execXthl s = finish 1
      (((s.setMem (Memory.put (Memory.put s.mem s.sp.toNat s.regs.l) (s.sp + 1).toNat s.regs.h)).setL
        (memRead s.sp s)).setH (memRead (s.sp + 1) s)) :=
  memWrite_memWrite_of_unprotected h1 h2 _ _ _

/-- Settles O32: `L` and `H` are stored at the two cells, and what was read from these goes into `L` and `H`. -/
theorem xthlExchangesTop : Obligations.XthlExchangesTop := by
  unfold Obligations.XthlExchangesTop
  intro s h1 h2
  have hne : s.sp ≠ s.sp + 1 := by bv_omega
  obtain ⟨hlo, hhi, hmem⟩ := memRead_of_two_stores hne s.regs.l s.regs.h s
  have hregs : RegsKeptBut [.h, .l] s ((s.setL (memRead s.sp s)).setH (memRead (s.sp + 1) s)) :=
    regsKeptBut_trans (regsKeptBut_of_wrOp (dst := .l) rfl) (regsKeptBut_of_wrOp (dst := .h) rfl) (by simp) (by simp)
  exact ⟨_, execXthl_of_unprotected h1 h2, rfl, rfl, hlo, hhi, hmem, regsKeptBut_of_regs_eq hregs rfl, rfl, rfl, rfl,
    by simp [ControlKept]⟩

end Sys2Proof.Machine
end

section
/-! PROOFS. Control transfer (spec/44_branch.md R200 to R209). -/

namespace Sys2Proof.Machine

open Sys2Proof.Claims

/-! ## The condition field -/

/-- Settles O33: in each of the eight rows the selected flag is tested for 0 where the low bit is 0, and for 1 where it is 1. -/
theorem conditionsByBits : Obligations.ConditionsByBits := by
  unfold Obligations.ConditionsByBits
  intro ccc f
  match ccc with
  | 0#3 | 2#3 | 4#3 | 6#3 => exact iff_of_eq (Bool.not_eq_true' _)
  | 1#3 | 3#3 | 5#3 | 7#3 => exact Iff.rfl

/-! ## Taken and not taken -/

section
variable {cond : Cond} {s : State}

/-- Taken or not, a conditional jump writes `PC` (44_branch.md R202). -/
theorem jumpIf_eq (cond : Cond) (a16 : Word) (s : State) :
    jumpIf cond a16 s = .next (s.setPc (if condHolds cond s.flags then a16 else s.pc + 3)) := by
  unfold jumpIf
  split
  · rfl
  · exact finish_eq 3 s

theorem callIf_of_holds (h : condHolds cond s.flags = true) (a16 : Word) : callIf cond a16 s = callTo (s.pc + 3) a16 s :=
  if_pos h

theorem callIf_of_not_holds (h : condHolds cond s.flags = false) (a16 : Word) : callIf cond a16 s = finish 3 s :=
  if_neg (Bool.eq_false_iff.mp h)

theorem returnIf_of_holds (h : condHolds cond s.flags = true) : returnIf cond s = .next (returnToTop s) :=
  if_pos h

theorem returnIf_of_not_holds (h : condHolds cond s.flags = false) : returnIf cond s = finish 1 s :=
  if_neg (Bool.eq_false_iff.mp h)

end

/-- Settles O34: `JMP` and `PCHL` write `PC`, and so does `Jcc` on both of its branches. -/
theorem jumpsWritePcOnly : Obligations.JumpsWritePcOnly := by
  unfold Obligations.JumpsWritePcOnly
  exact fun s => ⟨fun _ => rfl, rfl, fun cond a16 => (exec_jcc s cond a16).trans (jumpIf_eq cond a16 s)⟩

/-- Settles O36: a condition that does not hold leaves `finish` alone, which writes `PC`. -/
theorem untakenCallsAndReturnsFallThrough : Obligations.UntakenCallsAndReturnsFallThrough := by
  unfold Obligations.UntakenCallsAndReturnsFallThrough
  exact fun cond s h => ⟨fun a16 => (exec_ccc s cond a16).trans (callIf_of_not_holds h a16),
    (exec_rcc s cond).trans (returnIf_of_not_holds h)⟩

/-! ## Calls -/

/-- The target of `RST n`: the field moved up three bits is eight times its value (44_branch.md R208). -/
theorem setWidth_shiftLeft_three (n : BitVec 3) : n.setWidth 16 <<< 3 = BitVec.ofNat 16 (8 * n.toNat) := by
  apply BitVec.eq_of_toNat_eq
  simp [Nat.shiftLeft_eq, Nat.mul_comm]

/-- Settles O35: `CALL`, a taken `Ccc` and `RST` are the one push of a return address, each with its own address and target. -/
theorem callsPushReturnAddress : Obligations.CallsPushReturnAddress := by
  unfold Obligations.CallsPushReturnAddress
  intro s h1 h2
  refine ⟨fun a16 => callTo_of_unprotected h1 h2 _ a16, fun cond a16 hc => ?_, fun n => ?_⟩
  · rw [exec_ccc, callIf_of_holds hc]
    exact callTo_of_unprotected h1 h2 _ a16
  · rw [exec_rst, rstOp, setWidth_shiftLeft_three]
    exact callTo_of_unprotected h1 h2 _ _

/-! ## Returns -/

/-- A return pops `PC` and changes nothing else but `SP` (44_branch.md R205). -/
theorem returnToTop_popsIntoPc (s : State) : PopsIntoPc (.next (returnToTop s)) s := by
  obtain ⟨⟨-, hcontrol⟩, hflags⟩ := returnToTop_quiet s
  exact ⟨_, rfl, returnToTop_pc s, returnToTop_sp s, returnToTop_regs s, hflags, memRead_congr (returnToTop_mem s), hcontrol⟩

/-- Settles O37: `RET` and a taken `Rcc` are the one return. -/
theorem returnsPopPc : Obligations.ReturnsPopPc := by
  unfold Obligations.ReturnsPopPc
  refine fun s => ⟨returnToTop_popsIntoPc s, fun cond hc => ?_⟩
  rw [exec_rcc, returnIf_of_holds hc]
  exact returnToTop_popsIntoPc s

/-! ## A call and then a return -/

/-- A return right after a call goes to the address the call pushed, with `SP`, the registers and the flags of before it
(44_branch.md R203, R205). -/
theorem returnToTop_of_callTo {ret target : Word} {s t : State} (h : callTo ret target s = .next t) :
    (returnToTop t).pc = ret ∧ (returnToTop t).sp = s.sp ∧ (returnToTop t).regs = s.regs ∧
      (returnToTop t).flags = s.flags := by
  obtain ⟨u, hpush, rfl⟩ := callTo_eq_next h
  obtain ⟨-, -, -, hsp, -, hregs⟩ := push16_spec hpush
  have htop : stackTop u = ret := stackTop_of_push16 hpush
  have hback : u.sp + 2 = s.sp := hsp ▸ BitVec.sub_add_cancel _ _
  exact ⟨htop, hback, hregs, (push16_quiet s ret u hpush).flags⟩

/-- Settles O38: the address `CALL` pushed is the word on top of the stack, and `RET` pops it. -/
theorem retUndoesCall : Obligations.RetUndoesCall := by
  unfold Obligations.RetUndoesCall
  exact fun _ _ t h => ⟨returnToTop t, rfl, returnToTop_of_callTo h⟩

end Sys2Proof.Machine
end

section
/-! PROOFS. The ports and the input events (spec/45_io_shift_register.md R220 to R230). -/

namespace Sys2Proof.Machine

open Sys2Proof.Claims

/-! ## Reading a port -/

/-- The window of port 3, bit by bit (45_io_shift_register.md R227). -/
theorem shiftWindow_bit (io : IoBus) {k : Nat} (hk : k < 8) :
    (shiftWindow io).getLsbD k = (wordOf io.shh io.shl).getLsbD (k + (8 - io.off.toNat)) := by
  simp [shiftWindow, hk, Nat.add_comm]

/-- A port with no device to read (45_io_shift_register.md R229). -/
theorem ioRead_of_no_device {port : Byte} (h1 : port ≠ 1) (h2 : port ≠ 2) (h3 : port ≠ 3) (io : IoBus) :
    ioRead port io = 0x00 := by
  rw [ioRead, if_neg h1, if_neg h2, if_neg h3]

/-- `IN` is a load of `A` with what `ioRead` gives, whatever the port. -/
theorem inp_loadsA (port : Byte) (s : State) : LoadsA (.inp port) (ioRead port s.io) 2 s := loadsA_of_exec rfl

/-- Settles O39: `IN` loads `A` with `ioRead` of its port, and the window is the shift register moved right by `8 - OFF`. -/
theorem inReadsPorts : Obligations.InReadsPorts := by
  unfold Obligations.InReadsPorts
  refine ⟨fun io _ hk => shiftWindow_bit io hk, fun s => ⟨inp_loadsA 1 s, inp_loadsA 2 s, inp_loadsA 3 s, ?_⟩⟩
  intro port h1 h2 h3
  exact ioRead_of_no_device h1 h2 h3 s.io ▸ inp_loadsA port s

/-! ## Writing a port -/

section
variable (v : Byte) (io : IoBus)

/-- The offset is the low three bits of what is written (45_io_shift_register.md R224). -/
theorem ioWrite_offset : ioWrite 2 v io = { io with off := v.setWidth 3 } := by
  rw [ioWrite, if_pos rfl, BitVec.setWidth_eq_extractLsb' (by decide)]

theorem ioWrite_shift : ioWrite 4 v io = { io with shl := io.shh, shh := v } := rfl

/-- A port with no device to write (45_io_shift_register.md R229). -/
theorem ioWrite_of_no_device {port : Byte} (h2 : port ≠ 2) (h4 : port ≠ 4) : ioWrite port v io = io := by
  rw [ioWrite, if_neg h2, if_neg h4]

end

/-- `OUT` writes the IOBus through `ioWrite` and moves on, whatever the port. -/
theorem exec_out (port : Byte) (s : State) :
    exec (.out port) s = .next { s with pc := s.pc + 2, io := ioWrite port s.regs.a s.io } := rfl

/-- Settles O40: what `OUT` leaves in the IOBus is `ioWrite` of its port. -/
theorem outWritesPorts : Obligations.OutWritesPorts := by
  unfold Obligations.OutWritesPorts
  refine fun s => ⟨?_, ?_, fun port h2 h4 => ?_⟩
  · rw [exec_out, ioWrite_offset]
  · rw [exec_out, ioWrite_shift]
  · rw [exec_out, ioWrite_of_no_device _ _ h2 h4]

/-! ## Input events -/

/-- The mask of one bit, bit by bit. -/
theorem oneBit_bit {bit : Nat} (hbit : bit ≤ 7) (k : Nat) : (1#8 <<< bit).getLsbD k = decide (k = bit) := by
  rw [← BitVec.twoPow_eq, BitVec.getLsbD_twoPow, decide_eq_true (Nat.lt_succ_of_le hbit), Bool.true_and]
  exact decide_eq_decide.mpr eq_comm

/-- Setting or clearing a bit of a latch, bit by bit (45_io_shift_register.md R230). -/
theorem latchBit_bit (latch : Byte) {bit : Nat} (hbit : bit ≤ 7) (pressed : Bool) (k : Nat) :
    (latchBit latch bit pressed).getLsbD k = if k = bit then pressed else latch.getLsbD k := by
  by_cases hk : k = bit
  · cases pressed <;> simp [latchBit, oneBit_bit hbit, hk]
  · cases pressed with
    | true => simp [latchBit, oneBit_bit hbit, hk]
    | false => simpa [latchBit, oneBit_bit hbit, hk] using BitVec.lt_of_getLsbD

section
variable {bit : Nat} (hbit : bit ≤ 7) (pressed : Bool) (s : State)
include hbit

theorem handleInput_one :
    handleInput 1 bit pressed s = .next (s.setIo { s.io with in1 := latchBit s.io.in1 bit pressed }) := by
  rw [handleInput, if_neg hbit.not_gt, if_pos rfl]

theorem handleInput_two :
    handleInput 2 bit pressed s = .next (s.setIo { s.io with in2 := latchBit s.io.in2 bit pressed }) := by
  rw [handleInput, if_neg hbit.not_gt, if_neg (by decide), if_pos rfl]

end

/-- A bit above 7 or a port without a latch (45_io_shift_register.md R230, decision D31). -/
theorem handleInput_of_out_of_range {port bit : Nat} (h : 7 < bit ∨ (port ≠ 1 ∧ port ≠ 2)) (pressed : Bool) (s : State) :
    handleInput port bit pressed s = .refused (.inputOutOfRange port bit) := by
  unfold handleInput
  split
  · rfl
  next hbit =>
    obtain ⟨h1, h2⟩ := h.resolve_left hbit
    rw [if_neg h1, if_neg h2]

/-- Settles O42: each of the two ports writes its latch through `latchBit`, which sets or clears one bit. -/
theorem handleInputWritesOneBit : Obligations.HandleInputWritesOneBit := by
  unfold Obligations.HandleInputWritesOneBit
  refine fun bit pressed s => ⟨fun hbit => ⟨?_, ?_⟩, fun port h => handleInput_of_out_of_range h pressed s⟩
  · exact ⟨_, handleInput_one hbit pressed s, latchBit_bit s.io.in1 hbit pressed⟩
  · exact ⟨_, handleInput_two hbit pressed s, latchBit_bit s.io.in2 hbit pressed⟩

end Sys2Proof.Machine
end

section
/-! PROOFS. The control handlers and a halted step (spec/46_machine_control.md R240 to R244). -/

namespace Sys2Proof.Machine

/-! ## A step while halted -/

/-- Settles O7: with no driver move the step is the core's, and a halted core does not fetch. -/
theorem haltedStepChangesNothing : Obligations.HaltedStepChangesNothing := by
  unfold Obligations.HaltedStepChangesNothing
  intro s hhalt hschedule
  rw [step_of_empty hschedule, coreStep_of_halted hhalt]

/-! ## The handlers -/

section
variable (s : State)

/-- `EI` touches `PEND` and not `IE`: the enable is deferred (46_machine_control.md R240). -/
theorem exec_ei : exec .ei s = .next { s with pend := true, pc := s.pc + 1 } := rfl

/-- `DI` takes effect at once (46_machine_control.md R241). -/
theorem exec_di : exec .di s = .next { s with ie := false, pc := s.pc + 1 } := rfl

/-- `HLT` leaves `PC` at its own address (46_machine_control.md R242). -/
theorem exec_hlt : exec .hlt s = .next { s with halt := true } := rfl

theorem exec_nop : exec .nop s = .next { s with pc := s.pc + 1 } := rfl

end

/-- Settles O43: one equation per handler. -/
theorem controlHandlers : Obligations.ControlHandlers := by
  unfold Obligations.ControlHandlers
  exact fun s => ⟨exec_ei s, exec_di s, exec_hlt s, exec_nop s⟩

end Sys2Proof.Machine
end

section
/-! PROOFS. The stores that `Protected` refuses (spec/60_exceptions.md R261; spec/20_memory.md R53, R58): a fault at the first
protected address of the handler, with the state as the stores before it left it. -/

namespace Sys2Proof.Machine

open Sys2Proof.Claims

/-! ## One store -/

/-- A handler that begins with a store faults there, whatever it goes on with. -/
theorem memWrite_andThen_faults (addr : Word) (v : Byte) (k : State → Result) (s : State) :
    OneStoreFaults (andThen (memWrite addr v s) k) addr s := by
  intro range h
  rw [memWrite_of_firstHolder h, andThen_fault]

/-- Settles O48: each handler begins with its one store. -/
theorem protectedStoreFaults : Obligations.ProtectedStoreFaults := by
  unfold Obligations.ProtectedStoreFaults
  refine fun s => ⟨fun src hsrc => ?_, fun d8 => ?_, ?_, ?_, fun a16 => ?_, ?_, ?_⟩
  · rw [exec_mov s .m src (.inr hsrc)]
    exact memWrite_andThen_faults s.hl (rdOp src s) (finish 1) s
  all_goals exact memWrite_andThen_faults _ _ _ s

/-! ## Two stores -/

/-- A handler that begins with two stores faults at the first of them that is protected, whatever it goes on with. -/
theorem memWrite_memWrite_andThen_fault (a1 a2 : Word) (v1 v2 : Byte) (k : State → Result) (s : State) :
    TwoStoresFault (andThen (memWrite a1 v1 s) fun u => andThen (memWrite a2 v2 u) k) a1 a2 v1 s := by
  refine ⟨memWrite_andThen_faults a1 v1 _ s, fun range h1 h2 => ?_⟩
  have hread := memRead_setMem_put s a1 v1
  refine ⟨s.setMem (Memory.put s.mem a1.toNat v1), ?_, (hread a1).trans ?_, fun x hx => (hread x).trans ?_,
    rfl, rfl, rfl, rfl, by simp [ControlKept]⟩
  · rw [memWrite_of_unprotected h1, andThen_next]
    exact memWrite_andThen_faults a2 v2 k _ range h2
  · rw [if_pos rfl]
  · rw [if_neg (by simpa using hx)]

/-- Going on after the two stores does not change how they fault. -/
theorem twoStoresFault_andThen {r : Result} {a1 a2 : Word} {v1 : Byte} {s : State} (h : TwoStoresFault r a1 a2 v1 s)
    (k : State → Result) : TwoStoresFault (andThen r k) a1 a2 v1 s := by
  obtain ⟨hfirst, hsecond⟩ := h
  refine ⟨fun range h1 => ?_, fun range h1 h2 => ?_⟩
  · rw [hfirst range h1, andThen_fault]
  · obtain ⟨left, hfault, hleft⟩ := hsecond range h1 h2
    exact ⟨left, by rw [hfault, andThen_fault], hleft⟩

/-- A push stores at `SP - 1` and then at `SP - 2`, and so does what begins with one: `PUSH`, the calls, and the entry of an
interrupt (20_memory.md R58). -/
theorem push16_andThen_fault (v : Word) (k : State → Result) (s : State) :
    TwoStoresFault (andThen (push16 v s) k) (s.sp - 1) (s.sp - 2) (hiByte v) s :=
  twoStoresFault_andThen (memWrite_memWrite_andThen_fault _ _ _ _ _ s) k

end Sys2Proof.Machine
end

section
/-! PROOFS. An interrupt request (spec/60_exceptions.md R252 to R257, R261). -/

namespace Sys2Proof.Machine

open Sys2Proof.Claims

/-! ## Refused, dropped, taken -/

section
variable {n : Nat} {s : State}

theorem interrupt_of_out_of_range (hn : 7 < n) : interrupt n s = .refused (.vectorOutOfRange n) := if_pos hn

theorem interrupt_of_disabled (hn : n ≤ 7) (hie : s.ie = false) : interrupt n s = .next s := by
  rw [interrupt, if_neg hn.not_gt, hie]
  rfl

theorem interrupt_of_enabled (hn : n ≤ 7) (hie : s.ie = true) :
    interrupt n s = interruptEntry (BitVec.ofNat 16 n <<< 3) s := by
  rw [interrupt, if_neg hn.not_gt, if_pos hie]

end

/-- Settles O46: the two cases of a request that do not enter. -/
theorem interruptIsDroppedOrRefused : Obligations.InterruptIsDroppedOrRefused := by
  unfold Obligations.InterruptIsDroppedOrRefused
  exact fun n s => ⟨interrupt_of_disabled, interrupt_of_out_of_range⟩

/-! ## The entry -/

/-- The entry is a call of the vector from `PC` that then clears `IE` and `HALT` (60_exceptions.md R253). -/
theorem interruptEntry_eq_callTo (vector : Word) (s : State) :
    interruptEntry vector s = andThen (callTo s.pc vector s) fun u => .next ((u.setIe false).setHalt false) := by
  rw [callTo, andThen_assoc]
  rfl

theorem ofNat_shiftLeft_three (n : Nat) : BitVec.ofNat 16 n <<< 3 = BitVec.ofNat 16 (8 * n) := by
  apply BitVec.eq_of_toNat_eq
  simp [Nat.shiftLeft_eq, Nat.mul_comm]

/-- Settles O45: the call stores the return address and goes to the vector, and what follows clears the two latches. -/
theorem interruptIsTaken : Obligations.InterruptIsTaken := by
  unfold Obligations.InterruptIsTaken
  intro n s hn hie h1 h2
  obtain ⟨u, hcall, hhi, hlo, hkept, hsp, hpc, hregs, hflags, -, hpend, -, hio, hprot, hschedule⟩ :=
    callTo_of_unprotected h1 h2 s.pc (BitVec.ofNat 16 (8 * n))
  refine ⟨(u.setIe false).setHalt false, ?_, hhi, hlo, hkept, hsp, hpc, rfl, rfl, hregs, hflags, hpend, hio, hprot,
    hschedule⟩
  rw [interrupt_of_enabled hn hie, ofNat_shiftLeft_three, interruptEntry_eq_callTo, hcall, andThen_next]

/-- A request with `IE` set that answers a next state has entered. -/
theorem interrupt_eq_next_of_enabled {n : Nat} {s t : State} (hie : s.ie = true) (h : interrupt n s = .next t) :
    ∃ u, callTo s.pc (BitVec.ofNat 16 n <<< 3) s = .next u ∧ t = (u.setIe false).setHalt false := by
  by_cases hn : n ≤ 7
  · rw [interrupt_of_enabled hn hie, interruptEntry_eq_callTo] at h
    obtain ⟨u, hcall, hnext⟩ := andThen_eq_next_iff.mp h
    exact ⟨u, hcall, (Host.Outcome.next.inj hnext).symm⟩
  · rw [interrupt_of_out_of_range (not_le.mp hn)] at h
    cases h

/-- Settles O47: the handler's `RET` is the return from the call the entry made, and the entry left `IE` clear. -/
theorem retUndoesInterrupt : Obligations.RetUndoesInterrupt := by
  unfold Obligations.RetUndoesInterrupt
  intro n m s t hie h
  obtain ⟨u, hcall, rfl⟩ := interrupt_eq_next_of_enabled hie h
  obtain ⟨hpc, hsp, hregs, hflags⟩ := returnToTop_of_callTo hcall
  exact ⟨⟨_, rfl, hpc, hsp, hregs, hflags, rfl⟩, fun hm => interrupt_of_disabled hm rfl⟩

/-- Settles O49: each handler begins with two stores, those of a push for all but `SHLD` and `XTHL`. -/
theorem protectedSecondStoreLeavesFirst : Obligations.ProtectedSecondStoreLeavesFirst := by
  unfold Obligations.ProtectedSecondStoreLeavesFirst
  refine fun s => ⟨fun p => ?_, fun a16 => ?_, fun cond a16 hcond => ?_, fun n => ?_, fun a16 => ?_, ?_, fun n hn hie => ?_⟩
  · rw [exec_push]
    exact push16_andThen_fault _ _ s
  · exact push16_andThen_fault _ _ s
  · rw [exec_ccc, callIf_of_holds hcond]
    exact push16_andThen_fault _ _ s
  · rw [exec_rst]
    exact push16_andThen_fault _ _ s
  · exact memWrite_memWrite_andThen_fault _ _ _ _ _ s
  · exact memWrite_memWrite_andThen_fault _ _ _ _ _ s
  · rw [interrupt_of_enabled hn hie]
    exact push16_andThen_fault _ _ s

end Sys2Proof.Machine
end

section
/-! PROOFS. The step: the driver's moves, the fetch, and an illegal opcode (spec/60_exceptions.md R250, R251, R258, R260). -/

namespace Sys2Proof.Machine

/-! ## The driver's moves -/

/-- A boundary's events are applied in a state that no longer lists them. -/
theorem step_of_cons {s : State} {evs : List DriverEvent} {rest : List (List DriverEvent)}
    (h : s.schedule = evs :: rest) : step s = andThen (applyEvents evs (s.setSchedule rest)) coreStep := by
  simp [step, boundaryThenStep, boundary, h]

/-- Settles O6: an event applied leaves the step that the other events of its boundary begin. -/
theorem driverMovesComeBeforeTheStep : Obligations.DriverMovesComeBeforeTheStep := by
  unfold Obligations.DriverMovesComeBeforeTheStep
  refine ⟨fun s h => step_of_empty h, fun s rest h => step_of_cons h, fun s t ev evs rest h hev => ?_⟩
  have hevent : applyEvent ev (s.setSchedule rest) = .next t := hev
  calc step s
    _ = andThen (applyEvents (ev :: evs) (s.setSchedule rest)) coreStep := step_of_cons h
    _ = andThen (applyEvents evs t) coreStep := by rw [applyEvents_cons, hevent, andThen_next]
    _ = step (t.setSchedule (evs :: t.schedule)) :=
      (step_of_cons (s := t.setSchedule (evs :: t.schedule)) rfl).symm

/-! ## The fetch -/

/-- What a fetch reads is what its three bytes decode to (30_encoding.md R83, R84). -/
theorem decode3_eq_of_decode {b1 b2 b3 : Byte} {i : Instr} {rest : List Byte}
    (h : decode [b1, b2, b3] = .ok (i, rest)) : decode3 b1 b2 b3 = i := by
  obtain ⟨op, ops, hbytes, hreads⟩ := decode_eq_ok_iff.mp h
  generalize hform : decodeOpcode op = form at hreads
  cases hreads <;> cases hbytes <;> simp [decode3, hform]

/-- An instruction's handler runs with a pending enable activated (60_exceptions.md R250 step 4). -/
theorem beforeHandler_of_wellFormed {i : Instr} (h : i.wellFormed = true) (s : State) :
    beforeHandler i s = { s with ie := s.ie || s.pend, pend := false } := by
  rw [beforeHandler, if_pos h, activate_eq]

/-- Settles O5: the step is the core's, and what it fetches is what the bytes decode to. -/
theorem stepRunsTheDecodedInstruction : Obligations.StepRunsTheDecodedInstruction := by
  unfold Obligations.StepRunsTheDecodedInstruction
  intro s i rest hrun hschedule hwf hdecode
  have hfetch : fetch s = i := decode3_eq_of_decode hdecode
  rw [step_of_empty hschedule, coreStep_of_running hrun, hfetch, beforeHandler_of_wellFormed hwf]

/-! ## An illegal opcode -/

/-- The row of an illegal value, whatever bytes follow it: no instruction, and its meaning is the fault (60_exceptions.md
R260). -/
theorem decode3_of_illegal {op : Byte} (h : op ∈ illegalSet) (b2 b3 : Byte) :
    (decode3 op b2 b3).wellFormed = false ∧ ∀ s, exec (decode3 op b2 b3) s = illegalOp op s := by
  simp only [illegalSet, List.mem_cons, List.not_mem_nil, or_false] at h
  rcases h with rfl | rfl | rfl | rfl | rfl | rfl | rfl | rfl | rfl | rfl | rfl | rfl <;> exact ⟨rfl, fun _ => rfl⟩

/-- Settles O8: the twelve meanings are the fault, and no enable is activated before one of them. -/
theorem illegalOpcodesFaultUnchanged : Obligations.IllegalOpcodesFaultUnchanged := by
  unfold Obligations.IllegalOpcodesFaultUnchanged
  refine fun s => ⟨rfl, rfl, rfl, rfl, rfl, rfl, rfl, rfl, rfl, rfl, rfl, rfl, fun hrun hschedule hop => ?_⟩
  obtain ⟨hwf, hexec⟩ := decode3_of_illegal hop (memRead (s.pc + 1) s) (memRead (s.pc + 2) s)
  have hbefore : beforeHandler (fetch s) s = s := if_neg (Bool.eq_false_iff.mp hwf)
  rw [step_of_empty hschedule, coreStep_of_running hrun, hbefore]
  exact hexec s

end Sys2Proof.Machine
end

section
/-! PROOFS. Which instructions write memory and `SP`, and which fault (spec/60_exceptions.md R261, R262; spec/10_state.md R26,
R30, R31). -/

namespace Sys2Proof.Machine

/-! ## How a store can stop -/

/-- The outcome of a handler that stores: a next state, or the fault at an address that a range of `Protected` holds. -/
inductive StoreOutcome (s : State) : Result → Prop where
  | next (t : State) : StoreOutcome s (.next t)
  | fault {addr : Word} {range : ProtRange} (left : State) (hmem : range ∈ s.prot) (hholds : range.holds addr = true) :
      StoreOutcome s (.fault (.protectedWrite addr range left))

section
variable {s u : State}

/-- A store from a state with the ranges of `s`. -/
theorem memWrite_storeOutcome (hprot : u.prot = s.prot) (addr : Word) (v : Byte) : StoreOutcome s (memWrite addr v u) := by
  rcases memWrite_cases addr v u with ⟨-, e⟩ | ⟨range, hrange, e⟩ <;> rw [e]
  · exact .next _
  · obtain ⟨hmem, hholds⟩ := hrange.mem_and_holds
    exact .fault _ (hprot ▸ hmem) hholds

/-- Two operations in a row. -/
theorem StoreOutcome.andThen_of_ensures {r : Result} {k : State → Result} (hr : StoreOutcome s r)
    (hk : Ensures r fun u => StoreOutcome s (k u)) : StoreOutcome s (andThen r k) := by
  cases hr with
  | next t => exact hk t rfl
  | fault left hmem hholds => exact .fault left hmem hholds

/-- A store, and then what does not stop. -/
theorem memWrite_andThen_storeOutcome (hprot : u.prot = s.prot) (addr : Word) (v : Byte) (k : State → State) :
    StoreOutcome s (andThen (memWrite addr v u) fun w => .next (k w)) :=
  (memWrite_storeOutcome hprot addr v).andThen_of_ensures fun w _ => .next (k w)

/-- Two stores, and then what does not stop. -/
theorem memWrite_memWrite_andThen_storeOutcome (a1 a2 : Word) (v1 v2 : Byte) (k : State → State) :
    StoreOutcome s (andThen (memWrite a1 v1 s) fun u => andThen (memWrite a2 v2 u) fun w => .next (k w)) :=
  (memWrite_storeOutcome rfl a1 v1).andThen_of_ensures fun u hu =>
    have ⟨_, _, _, _, hprot, _⟩ := (memWrite_quiet s a1 v1 u hu).control
    memWrite_andThen_storeOutcome hprot a2 v2 k

/-- A push, and then what does not stop. -/
theorem push16_andThen_storeOutcome (v : Word) (k : State → State) :
    StoreOutcome s (andThen (push16 v s) fun w => .next (k w)) :=
  (memWrite_memWrite_andThen_storeOutcome _ _ _ _ _).andThen_of_ensures fun w _ => .next (k w)

end

/-! ## Memory and `SP` -/

/-- What the outcome of an instruction can be, as far as memory, `SP` and the faults go. -/
inductive StoreEffect (s : State) : Instr → Result → Prop where
  | noStore {i : Instr} {t : State} (hmem : t.mem = s.mem) (hsp : t.sp = s.sp ∨ i.writesSp = true) :
      StoreEffect s i (.next t)
  | store {i : Instr} {r : Result} (hi : i.writesMem = true) (hr : StoreOutcome s r)
      (hsp : Ensures r fun t => t.sp = s.sp) : StoreEffect s i r
  /-- A push writes `SP` too. -/
  | push {i : Instr} {r : Result} (hi : i.writesMem = true) (hsp : i.writesSp = true) (hr : StoreOutcome s r) :
      StoreEffect s i r
  | illegal {i : Instr} (hi : i.wellFormed = false) (f : Fault) : StoreEffect s i (.fault f)

section
variable {s : State} {i : Instr}

/-- A handler of one store. -/
theorem memWrite_andThen_storeEffect (hi : i.writesMem = true) (addr : Word) (v : Byte) {k : State → State}
    (hk : ∀ u, (k u).sp = u.sp) : StoreEffect s i (andThen (memWrite addr v s) fun u => .next (k u)) :=
  .store hi (memWrite_andThen_storeOutcome rfl addr v k) <| ensures_andThen.mpr fun u hu => by
    obtain ⟨-, rfl⟩ := memWrite_eq_next_iff.mp hu
    exact ensures_next.mpr (hk _)

/-- A handler of two stores that are no push: `SHLD` and `XTHL`. -/
theorem memWrite_memWrite_andThen_storeEffect (hi : i.writesMem = true) (a1 a2 : Word) (v1 v2 : Byte) {k : State → State}
    (hk : ∀ u, (k u).sp = u.sp) :
    StoreEffect s i (andThen (memWrite a1 v1 s) fun u => andThen (memWrite a2 v2 u) fun w => .next (k w)) :=
  .store hi (memWrite_memWrite_andThen_storeOutcome a1 a2 v1 v2 k) <| ensures_andThen.mpr fun u hu =>
    ensures_andThen.mpr fun w hw => by
      obtain ⟨-, rfl⟩ := memWrite_eq_next_iff.mp hu
      obtain ⟨-, rfl⟩ := memWrite_eq_next_iff.mp hw
      exact ensures_next.mpr (hk _)

/-- A handler that writes an operand and does not stop after it. -/
theorem wrOp_andThen_storeEffect {dst : Sel} (hi : dst = .m → i.writesMem = true) (v : Byte) {k : State → State}
    (hmem : ∀ u, (k u).mem = u.mem) (hsp : ∀ u, (k u).sp = u.sp) :
    StoreEffect s i (andThen (wrOp dst v s) fun u => .next (k u)) := by
  by_cases hdst : dst = .m
  · subst hdst
    exact memWrite_andThen_storeEffect (hi rfl) s.hl v hsp
  · obtain ⟨regs, hw⟩ := wrOp_of_register hdst v s
    rw [hw, andThen_next]
    exact .noStore (hmem _) (.inl (hsp _))

/-- `INR` and `DCR`. -/
theorem wrOp_setFlags_storeEffect {dst : Sel} (hi : dst = .m → i.writesMem = true) (v : Byte) (f : Flags) (n : Nat) :
    StoreEffect s i (andThen (wrOp dst v s) fun u => finish n (u.setFlags f)) :=
  wrOp_andThen_storeEffect hi v (fun _ => rfl) fun _ => rfl

/-- A handler that writes `A` and the flags. -/
theorem setA_setFlags_storeEffect (v : Byte) (f : Flags) (n : Nat) :
    StoreEffect s i (finish n ((s.setA v).setFlags f)) :=
  .noStore rfl (.inl rfl)

theorem setFlags_storeEffect (f : Flags) (n : Nat) : StoreEffect s i (finish n (s.setFlags f)) :=
  .noStore rfl (.inl rfl)

theorem aluAdd_storeEffect (b : Byte) (c : Bool) (n : Nat) : StoreEffect s i (aluAdd b c n s) :=
  setA_setFlags_storeEffect _ _ n

theorem aluSub_storeEffect (b : Byte) (c : Bool) (n : Nat) : StoreEffect s i (aluSub b c n s) :=
  setA_setFlags_storeEffect _ _ n

theorem aluLogic_storeEffect (f : Byte → Byte → Byte × Flags) (b : Byte) (n : Nat) : StoreEffect s i (aluLogic f b n s) :=
  setA_setFlags_storeEffect _ _ n

theorem aluCompare_storeEffect (b : Byte) (n : Nat) : StoreEffect s i (aluCompare b n s) :=
  setFlags_storeEffect _ n

theorem exec_alu_storeEffect (op : AluOp) (src : Sel) : StoreEffect s i (exec (aluInstr op src) s) := by
  cases op with
  | add => rw [exec_add]; exact aluAdd_storeEffect _ _ _
  | adc => rw [exec_adc]; exact aluAdd_storeEffect _ _ _
  | sub => rw [exec_sub]; exact aluSub_storeEffect _ _ _
  | sbb => rw [exec_sbb]; exact aluSub_storeEffect _ _ _
  | ana => rw [exec_ana]; exact aluLogic_storeEffect _ _ _
  | xra => rw [exec_xra]; exact aluLogic_storeEffect _ _ _
  | ora => rw [exec_ora]; exact aluLogic_storeEffect _ _ _
  | cmp => rw [exec_cmp]; exact aluCompare_storeEffect _ _

theorem exec_aluImm_storeEffect (op : AluOp) (d8 : Byte) : StoreEffect s i (exec (aluImmInstr op d8) s) := by
  cases op with
  | add | adc => exact aluAdd_storeEffect d8 _ 2
  | sub | sbb => exact aluSub_storeEffect d8 _ 2
  | ana | xra | ora => exact aluLogic_storeEffect _ d8 2
  | cmp => exact aluCompare_storeEffect d8 2

/-- A handler that writes a pair and goes to the next instruction. -/
theorem wrPair_storeEffect {p : Pair} (hi : p = .sp → i.writesSp = true) (v : Word) (n : Nat) :
    StoreEffect s i (finish n (wrPair p v s)) :=
  .noStore (wrPair_mem p v s) <| by
    cases p with
    | sp => exact .inr (hi rfl)
    | bc | de | hl => exact .inl rfl

end

theorem movInstr_writesMem {src : Sel} (h : src ≠ .m) : (movInstr .m src).writesMem = true := by
  cases src with
  | m => exact absurd rfl h
  | b | c | d | e | h | l | a => rfl

theorem pushInstr_writes (p : StackPair) : (pushInstr p).writesMem = true ∧ (pushInstr p).writesSp = true := by
  cases p <;> exact ⟨rfl, rfl⟩

theorem popInstr_writesSp (p : StackPair) : (popInstr p).writesSp = true := by cases p <;> rfl

theorem cccInstr_writes (cond : Cond) (a16 : Word) :
    (cccInstr cond a16).writesMem = true ∧ (cccInstr cond a16).writesSp = true := by
  cases cond <;> exact ⟨rfl, rfl⟩

theorem rccInstr_writesSp (cond : Cond) : (rccInstr cond).writesSp = true := by cases cond <;> rfl

theorem rstInstr_writes (n : BitVec 3) : (rstInstr n).writesMem = true ∧ (rstInstr n).writesSp = true := by
  match n with
  | 0#3 | 1#3 | 2#3 | 3#3 | 4#3 | 5#3 | 6#3 | 7#3 => exact ⟨rfl, rfl⟩

/-- Every instruction's outcome, pattern by pattern. -/
theorem exec_storeEffect (s : State) (i : Instr) : StoreEffect s i (exec i s) := by
  cases i using Instr.byPattern with
  | mov dst src =>
    by_cases h : dst ≠ .m ∨ src ≠ .m
    · rw [exec_mov s dst src h]
      refine wrOp_andThen_storeEffect (fun hdst => ?_) _ (fun _ => rfl) fun _ => rfl
      subst hdst
      exact movInstr_writesMem (by simpa using h)
    · obtain ⟨rfl, rfl⟩ : dst = .m ∧ src = .m := by simpa using h
      exact .noStore rfl (.inl rfl)
  | mvi dst d8 =>
    rw [exec_mvi]
    exact wrOp_andThen_storeEffect (fun hdst => hdst ▸ rfl) _ (fun _ => rfl) fun _ => rfl
  | inr dst =>
    rw [exec_inr]
    exact wrOp_setFlags_storeEffect (fun hdst => hdst ▸ rfl) _ _ 1
  | dcr dst =>
    rw [exec_dcr]
    exact wrOp_setFlags_storeEffect (fun hdst => hdst ▸ rfl) _ _ 1
  | lxi p d16 =>
    rw [exec_lxi]
    exact wrPair_storeEffect (fun hp => hp ▸ rfl) _ 3
  | inx p =>
    rw [exec_inx]
    exact wrPair_storeEffect (fun hp => hp ▸ rfl) _ 1
  | dcx p =>
    rw [exec_dcx]
    exact wrPair_storeEffect (fun hp => hp ▸ rfl) _ 1
  | dad p =>
    rw [exec_dad]
    exact .noStore rfl (.inl rfl)
  | alu op src => exact exec_alu_storeEffect op src
  | aluImm op d8 => exact exec_aluImm_storeEffect op d8
  | push p =>
    obtain ⟨hmem, hsp⟩ := pushInstr_writes p
    rw [exec_push]
    exact .push hmem hsp (push16_andThen_storeOutcome _ _)
  | pop p =>
    rw [exec_pop, popOp_eq]
    exact .noStore (wrStackPair_mem p _ _) (.inr (popInstr_writesSp p))
  | jcc cond a16 =>
    rw [exec_jcc, jumpIf_eq]
    exact .noStore rfl (.inl rfl)
  | ccc cond a16 =>
    obtain ⟨hmem, hsp⟩ := cccInstr_writes cond a16
    rw [exec_ccc]
    cases hcond : condHolds cond s.flags with
    | true =>
      rw [callIf_of_holds hcond]
      exact .push hmem hsp (push16_andThen_storeOutcome _ _)
    | false =>
      rw [callIf_of_not_holds hcond]
      exact .noStore rfl (.inl rfl)
  | rcc cond =>
    rw [exec_rcc]
    cases hcond : condHolds cond s.flags with
    | true =>
      rw [returnIf_of_holds hcond]
      exact .noStore rfl (.inr (rccInstr_writesSp cond))
    | false =>
      rw [returnIf_of_not_holds hcond]
      exact .noStore rfl (.inl rfl)
  | rst n =>
    obtain ⟨hmem, hsp⟩ := rstInstr_writes n
    rw [exec_rst]
    exact .push hmem hsp (push16_andThen_storeOutcome _ _)
  | call a16 => exact .push rfl rfl (push16_andThen_storeOutcome _ _)
  | staxB | staxD | sta => exact memWrite_andThen_storeEffect rfl _ _ fun _ => rfl
  | shld | xthl => exact memWrite_memWrite_andThen_storeEffect rfl _ _ _ _ fun _ => rfl
  | ret | sphl => exact .noStore rfl (.inr rfl)
  | nop | ldaxB | ldaxD | lhld | lda | xchg | rlc | rrc | ral | rar | daa | cma | stc | cmc
  | jmp | pchl | inp | out | di | ei =>
    exact .noStore rfl (.inl rfl)
  | illegal08 | illegal10 | illegal18 | illegal20 | illegal28 | illegal30 | illegal38
  | illegalCB | illegalD9 | illegalDD | illegalED | illegalFD => exact .illegal rfl _

/-! ## Faults -/

theorem StoreOutcome.of_fault {s : State} {f : Fault} (h : StoreOutcome s (.fault f)) :
    ∃ addr range left, f = .protectedWrite addr range left ∧ range ∈ s.prot ∧ range.holds addr = true := by
  cases h with
  | fault left hmem hholds => exact ⟨_, _, left, rfl, hmem, hholds⟩

/-- Settles O50: only the effects of a store have a fault, and no effect has a refusal. -/
theorem onlyListedInstructionsFault : Obligations.OnlyListedInstructionsFault := by
  unfold Obligations.OnlyListedInstructionsFault
  intro i s hwf
  have heffect := exec_storeEffect s i
  refine ⟨fun f hf => ?_, fun q hq => ?_⟩
  · rw [hf] at heffect
    cases heffect with
    | store hi hr _ => exact ⟨hi, hr.of_fault⟩
    | push hi _ hr => exact ⟨hi, hr.of_fault⟩
    | illegal hi => exact absurd hwf (Bool.eq_false_iff.mp hi)
  · rw [hq] at heffect
    cases heffect with
    | store _ hr _ => nomatch hr
    | push _ _ hr => nomatch hr

/-! ## Every other piece of state -/

/-- Memory and `SP` change only by the instructions listed as their writers. -/
theorem StoreEffect.memKept_and_sp {s t : State} {i : Instr} (h : StoreEffect s i (.next t)) :
    (i.writesMem = false → MemKept s t) ∧ (i.writesSp = false → t.sp = s.sp) := by
  cases h with
  | noStore hmem hsp => exact ⟨fun _ => memRead_congr hmem, fun hno => hsp.resolve_right (Bool.eq_false_iff.mp hno)⟩
  | store hi _ hsp => exact ⟨fun hno => absurd hi (Bool.eq_false_iff.mp hno), fun _ => hsp t rfl⟩
  | push hi hsp _ =>
    exact ⟨fun hno => absurd hi (Bool.eq_false_iff.mp hno), fun hno => absurd hsp (Bool.eq_false_iff.mp hno)⟩

/-- What an instruction of family `fam` may do to the latches, the IOBus, the ranges and the schedule (10_state.md R30,
R31). -/
def ControlKeptByFamily (fam : Family) (s t : State) : Prop :=
  (fam ≠ .out → t.io = s.io) ∧ t.io.in1 = s.io.in1 ∧ t.io.in2 = s.io.in2 ∧
    (fam ≠ .di → t.ie = s.ie) ∧ (fam ≠ .ei → t.pend = s.pend) ∧ (fam ≠ .hlt → t.halt = s.halt) ∧
    t.prot = s.prot ∧ t.schedule = s.schedule

theorem ControlKeptByFamily.of_frame {s t : State} (h : Frame s t) (fam : Family) : ControlKeptByFamily fam s t := by
  obtain ⟨-, hie, hpend, hhalt, hio, hprot, hschedule⟩ := h
  exact ⟨fun _ => hio, congrArg IoBus.in1 hio, congrArg IoBus.in2 hio, fun _ => hie, fun _ => hpend, fun _ => hhalt,
    hprot, hschedule⟩

/-- No port writes an input latch (45_io_shift_register.md R223). -/
theorem ioWrite_latches (port v : Byte) (io : IoBus) :
    (ioWrite port v io).in1 = io.in1 ∧ (ioWrite port v io).in2 = io.in2 := by
  unfold ioWrite
  split
  · exact ⟨rfl, rfl⟩
  · split <;> exact ⟨rfl, rfl⟩

theorem Effect.controlKept {i : Instr} {s t : State} (h : Effect s i t) : ControlKeptByFamily i.family s t := by
  cases h with
  | quiet h => exact .of_frame h.toFrame _
  | carryOnly _ h _ => exact .of_frame h _
  | carryKept _ _ h _ => exact .of_frame h _
  | allFlags _ h => exact .of_frame h _
  | ei => exact ⟨fun _ => rfl, rfl, rfl, fun _ => rfl, fun hno => absurd rfl hno, fun _ => rfl, rfl, rfl⟩
  | di => exact ⟨fun _ => rfl, rfl, rfl, fun hno => absurd rfl hno, fun _ => rfl, fun _ => rfl, rfl, rfl⟩
  | hlt => exact ⟨fun _ => rfl, rfl, rfl, fun _ => rfl, fun _ => rfl, fun hno => absurd rfl hno, rfl, rfl⟩
  | out d8 =>
    obtain ⟨hin1, hin2⟩ := ioWrite_latches d8 s.regs.a s.io
    exact ⟨fun hno => absurd rfl hno, hin1, hin2, fun _ => rfl, fun _ => rfl, fun _ => rfl, rfl, rfl⟩

/-- Settles O55: memory and `SP` by the cases of `exec_storeEffect`, the rest by those of `exec_effect`. -/
theorem stateChangesOnlyByItsWriters : Obligations.StateChangesOnlyByItsWriters := by
  unfold Obligations.StateChangesOnlyByItsWriters
  intro i s t h
  have heffect := exec_storeEffect s i
  rw [h] at heffect
  obtain ⟨hmem, hsp⟩ := heffect.memKept_and_sp
  exact ⟨hmem, hsp, (exec_effect h).controlKept⟩

end Sys2Proof.Machine
end

section
/-! PROOFS. An ended run (spec/70_reset_and_hazards.md R287): a boundary whose requests all find `IE` clear writes the input
latches alone, and a halted core does nothing. -/

namespace Sys2Proof.Machine

/-! ## Only the input latches -/

/-- `t` is `s` but for the input latches `IN1` and `IN2` (10_state.md R31). -/
def InputsOnly (s t : State) : Prop := ∃ a b, t = s.setIo { s.io with in1 := a, in2 := b }

namespace InputsOnly

variable {s u t : State}

theorem refl (s : State) : InputsOnly s s := ⟨s.io.in1, s.io.in2, rfl⟩

theorem trans (h1 : InputsOnly s u) (h2 : InputsOnly u t) : InputsOnly s t := by
  obtain ⟨_, _, rfl⟩ := h1
  obtain ⟨a, b, rfl⟩ := h2
  exact ⟨a, b, rfl⟩

theorem ie (h : InputsOnly s t) : t.ie = s.ie := by
  obtain ⟨_, _, rfl⟩ := h
  rfl

theorem halt (h : InputsOnly s t) : t.halt = s.halt := by
  obtain ⟨_, _, rfl⟩ := h
  rfl

/-- The form in which the statements say it. -/
theorem eq (h : InputsOnly s t) : t = { s with io := { s.io with in1 := t.io.in1, in2 := t.io.in2 } } := by
  obtain ⟨_, _, rfl⟩ := h
  rfl

end InputsOnly

/-! ## Boundaries that accept no request -/

/-- No request of the list can be accepted from `s`: `IE` is clear, or there is none. -/
def NoneAccepted (s : State) (evs : List DriverEvent) : Prop := s.ie = true → ∀ ev ∈ evs, ev.isInterrupt = false

/-- A legal event that is no accepted request writes an input latch or nothing. -/
theorem applyEvent_inputsOnly {ev : DriverEvent} (hlegal : ev.legal = true) {s : State}
    (hquiet : s.ie = true → ev.isInterrupt = false) : ∃ t, applyEvent ev s = .next t ∧ InputsOnly s t := by
  rcases applyEvent_of_legal hlegal s with ⟨-, a, b, he⟩ | ⟨-, -, he⟩ | ⟨n, rfl, hie, -⟩
  · exact ⟨_, he, a, b, rfl⟩
  · exact ⟨s, he, .refl s⟩
  · exact absurd (hquiet hie) (by simp [DriverEvent.isInterrupt])

theorem applyEvents_inputsOnly {evs : List DriverEvent} (hlegal : ∀ ev ∈ evs, ev.legal = true) {s : State}
    (hquiet : NoneAccepted s evs) : ∃ t, applyEvents evs s = .next t ∧ InputsOnly s t := by
  induction evs generalizing s with
  | nil => exact ⟨s, rfl, .refl s⟩
  | cons ev evs ih =>
    obtain ⟨hev, hevs⟩ := List.forall_mem_cons.mp hlegal
    obtain ⟨u, hu, hsu⟩ := applyEvent_inputsOnly hev fun hie => hquiet hie ev List.mem_cons_self
    obtain ⟨t, ht, hut⟩ := ih hevs fun hie e he => hquiet (hsu.ie ▸ hie) e (List.mem_cons_of_mem _ he)
    exact ⟨t, by rw [applyEvents_cons, hu, andThen_next, ht], hsu.trans hut⟩

/-! ## What a boundary that answers a next state holds -/

/-- An event that is answered is a reset or within the interface (60_exceptions.md R252; 45_io_shift_register.md R230). -/
theorem legal_of_applyEvent_eq_next {ev : DriverEvent} (hreset : ev.isReset = false) {s t : State}
    (h : applyEvent ev s = .next t) : ev.legal = true := by
  by_contra hlegal
  cases ev with
  | reset => cases hreset
  | interrupt n =>
    have hn : 7 < n := by simpa [DriverEvent.legal] using hlegal
    exact nomatch (interrupt_of_out_of_range hn).symm.trans h
  | input port bit pressed =>
    have hout : 7 < bit ∨ (port ≠ 1 ∧ port ≠ 2) := by
      simp only [DriverEvent.legal, Bool.and_eq_true, Bool.or_eq_true, beq_iff_eq, decide_eq_true_eq] at hlegal
      omega
    exact nomatch (handleInput_of_out_of_range hout pressed s).symm.trans h

theorem legal_of_applyEvents_eq_next {evs : List DriverEvent} (hreset : ∀ ev ∈ evs, ev.isReset = false) {s t : State}
    (h : applyEvents evs s = .next t) : ∀ ev ∈ evs, ev.legal = true := by
  induction evs generalizing s with
  | nil => exact List.forall_mem_nil _
  | cons ev evs ih =>
    obtain ⟨hev, hevs⟩ := List.forall_mem_cons.mp hreset
    obtain ⟨u, hu, ht⟩ := andThen_eq_next_iff.mp h
    exact List.forall_mem_cons.mpr ⟨legal_of_applyEvent_eq_next hev hu, ih hevs ht⟩

/-! ## The step of an ended run -/

/-- The step over any schedule; past its end a boundary has no events. -/
theorem step_eq (s : State) :
    step s = andThen (applyEvents (s.schedule.headD []) (s.setSchedule s.schedule.tail)) coreStep := by
  cases h : s.schedule with
  | nil =>
    have hsame : s.setSchedule [] = s := h ▸ rfl
    rw [step_of_empty h, List.headD_nil, List.tail_nil, hsame, applyEvents_nil, andThen_next]
  | cons evs rest => exact step_of_cons h

/-- The events of the next boundary are events of the schedule. -/
theorem forall_mem_headD_of_forall_mem {P : DriverEvent → Prop} {schedule : List (List DriverEvent)}
    (h : ∀ evs ∈ schedule, ∀ ev ∈ evs, P ev) : ∀ ev ∈ schedule.headD [], P ev := by
  cases schedule with
  | nil => exact List.forall_mem_nil _
  | cons evs rest => exact h evs List.mem_cons_self

/-- Settles O59: no request of the next boundary is accepted, so its events write the input latches alone, the core stays
halted and `IE` stays as it is for the boundaries after it. -/
theorem endedRunStaysEnded : Obligations.EndedRunStaysEnded := by
  unfold Obligations.EndedRunStaysEnded
  intro s t ⟨hhalt, hquiet⟩ hreset h
  rw [step_eq] at h
  obtain ⟨u, hu, ht⟩ := andThen_eq_next_iff.mp h
  have hlegal := legal_of_applyEvents_eq_next (forall_mem_headD_of_forall_mem hreset) hu
  obtain ⟨u', hu', hinputs⟩ := applyEvents_inputsOnly hlegal (s := s.setSchedule s.schedule.tail)
    fun hie => forall_mem_headD_of_forall_mem (hquiet hie)
  obtain rfl : u' = u := Host.Outcome.next.inj (hu'.symm.trans hu)
  rw [coreStep_of_halted (hinputs.halt.trans hhalt)] at ht
  obtain ⟨_, _, rfl⟩ := hinputs
  cases ht
  exact ⟨⟨hhalt, fun hie evs hevs => hquiet hie evs (List.mem_of_mem_tail hevs)⟩, rfl⟩

end Sys2Proof.Machine
end

section
/-! PROOFS. The deferred enable (spec/46_machine_control.md R240, R241; spec/60_exceptions.md R250;
spec/70_reset_and_hazards.md R285). -/

namespace Sys2Proof.Machine

/-- Each latch is as before, but for the one instruction that writes it (10_state.md R30). -/
def LatchesKeptBut (i : Instr) (s t : State) : Prop :=
  (i ≠ .di → t.ie = s.ie) ∧ (i ≠ .ei → t.pend = s.pend) ∧ (i ≠ .hlt → t.halt = s.halt)

theorem LatchesKeptBut.of_frame {s t : State} (h : Frame s t) (i : Instr) : LatchesKeptBut i s t := by
  obtain ⟨-, hie, hpend, hhalt, -⟩ := h
  exact ⟨fun _ => hie, fun _ => hpend, fun _ => hhalt⟩

theorem Effect.latchesKeptBut {i : Instr} {s t : State} (h : Effect s i t) : LatchesKeptBut i s t := by
  cases h with
  | quiet h => exact .of_frame h.toFrame i
  | carryOnly _ h _ => exact .of_frame h i
  | carryKept _ _ h _ => exact .of_frame h i
  | allFlags _ h => exact .of_frame h i
  | ei => exact ⟨fun _ => rfl, fun hne => absurd rfl hne, fun _ => rfl⟩
  | di => exact ⟨fun hne => absurd rfl hne, fun _ => rfl, fun _ => rfl⟩
  | hlt => exact ⟨fun _ => rfl, fun _ => rfl, fun hne => absurd rfl hne⟩
  | out d8 => exact ⟨fun _ => rfl, fun _ => rfl, fun _ => rfl⟩

/-- The meaning of an illegal row is a fault, so what answers a next state is an instruction (30_encoding.md R92, R93). -/
theorem wellFormed_of_exec_eq_next {i : Instr} {s t : State} (h : exec i s = .next t) : i.wellFormed = true := by
  cases i with
  | illegal08 | illegal10 | illegal18 | illegal20 | illegal28 | illegal30 | illegal38
  | illegalCB | illegalD9 | illegalDD | illegalED | illegalFD => exact nomatch h
  | _ => rfl

/-- A running core's step that answers a next state is the handler in the state with a pending enable activated. -/
theorem exec_of_coreStep_eq_next {s t : State} (hrun : s.halt = false) (h : coreStep s = .next t) :
    exec (fetch s) { s with ie := s.ie || s.pend, pend := false } = .next t := by
  rw [coreStep_of_running hrun] at h
  rwa [beforeHandler_of_wellFormed (wellFormed_of_exec_eq_next h)] at h

/-- The step of a running core at a given instruction. -/
theorem coreStep_of_fetch {s : State} {i : Instr} (hrun : s.halt = false) (hfetch : fetch s = i)
    (hwf : i.wellFormed = true) : coreStep s = exec i { s with ie := s.ie || s.pend, pend := false } := by
  rw [coreStep_of_running hrun, hfetch, beforeHandler_of_wellFormed hwf]

/-- Settles O44: the handler runs after the activation, which sets `IE` and clears `PEND`; of the instructions only `DI` then
clears `IE`, and only `EI` sets `PEND`. -/
theorem enableIsOneInstructionLate : Obligations.EnableIsOneInstructionLate := by
  unfold Obligations.EnableIsOneInstructionLate
  intro s hrun hschedule
  rw [step_of_empty hschedule]
  refine ⟨fun hei => ?_, fun hdi => ?_, fun t ht hpend hne => ?_⟩
  · rw [coreStep_of_fetch hrun hei rfl, exec_ei]
    exact ⟨_, rfl, rfl, rfl⟩
  · rw [coreStep_of_fetch hrun hdi rfl, exec_di]
    exact ⟨_, rfl, rfl, rfl⟩
  · obtain ⟨hie, hpend', -⟩ := (exec_effect (exec_of_coreStep_eq_next hrun ht)).latchesKeptBut
    exact ⟨by rw [hie hne, hpend, Bool.or_true], hpend'⟩

end Sys2Proof.Machine
end

section
/-! PROOFS. Reset and the loader (spec/70_reset_and_hazards.md R280 to R283). -/

namespace Sys2Proof.Machine

/-! ## Reset -/

/-- Settles O51: `Reset()` is the reset state but for the three fields it keeps. -/
theorem resetZeroesAllButMemory : Obligations.ResetZeroesAllButMemory := by
  unfold Obligations.ResetZeroesAllButMemory
  refine fun s => ⟨driverReset s, rfl, fun r hr => ?_, rfl, rfl, ?_, rfl, rfl, rfl, rfl, rfl, rfl, rfl, rfl, rfl, rfl,
    rfl⟩
  · cases r with
    | m => exact absurd rfl hr
    | b | c | d | e | h | l | a => rfl
  · exact (by decide : pack Flags.reset = 0x02)

/-! ## Placing an image -/

/-- The bytes of an image, below the top of memory, one at a time. -/
theorem placeBytes_cons (b : Byte) (bs : List Byte) {base : Nat} (hbase : base < 65536) (m : Memory) :
    placeBytes (b :: bs) (BitVec.ofNat 16 base) m = placeBytes bs (BitVec.ofNat 16 (base + 1)) (Memory.put m base b) := by
  rw [placeBytes, BitVec.toNat_ofNat, Nat.mod_eq_of_lt hbase, BitVec.ofNat_add]
  rfl

theorem byteAt_placeBytes_outside {bs : List Byte} {base : Nat} (hfits : base + bs.length ≤ 65536) (m : Memory) {a : Nat}
    (ha : a < base ∨ base + bs.length ≤ a) :
    Memory.byteAt (placeBytes bs (BitVec.ofNat 16 base) m) a = Memory.byteAt m a := by
  induction bs generalizing base m with
  | nil => rfl
  | cons b bs ih =>
    rw [List.length_cons] at hfits ha
    have hne : a ≠ base := by omega
    rw [placeBytes_cons b bs (by omega), ih (by omega) _ (by omega), Memory.byteAt_put, if_neg hne]

theorem byteAt_placeBytes_inside {bs : List Byte} {base : Nat} (hfits : base + bs.length ≤ 65536) (m : Memory) {k : Nat}
    (hk : k < bs.length) : Memory.byteAt (placeBytes bs (BitVec.ofNat 16 base) m) (base + k) = bs.getD k 0 := by
  induction bs generalizing base m k with
  | nil => exact absurd hk (Nat.not_lt_zero k)
  | cons b bs ih =>
    rw [List.length_cons] at hfits hk
    rw [placeBytes_cons b bs (by omega)]
    cases k with
    | zero =>
      rw [byteAt_placeBytes_outside (by omega) _ (by omega), Nat.add_zero, Memory.byteAt_put, if_pos rfl,
        List.getD_cons_zero]
    | succ k =>
      rw [← Nat.add_assoc, Nat.add_right_comm base k 1, ih (by omega) _ (by omega), List.getD_cons_succ]

/-! ## Protecting it -/

/-- The loader's range holds the addresses below a cursor within memory (20_memory.md R54). -/
theorem holds_below_cursor {cursor : Nat} (hpos : 0 < cursor) (hfits : cursor ≤ 65536) (a : Word) :
    ProtRange.holds { first := 0, last := BitVec.ofNat 16 (cursor - 1) } a = true ↔ a.toNat < cursor := by
  have hlast : (BitVec.ofNat 16 (cursor - 1)).toNat = cursor - 1 := by
    rw [BitVec.toNat_ofNat, Nat.mod_eq_of_lt (by omega)]
  simp [ProtRange.holds, hlast, Nat.le_sub_one_iff_lt hpos]

/-- What a load that succeeds leaves; an image that does not fit is a failed load (93_implementation_defined.md U12). -/
theorem loadFiles_eq_some {files : List (List Byte)} {base : Nat} {protect : Bool} {mem : Memory} {prot : List ProtRange}
    {x : Loaded} (h : loadFiles files base protect mem prot = some x) :
    x.cursor = base + files.flatten.length ∧ x.cursor ≤ 65536 ∧
      x.mem = placeBytes files.flatten (BitVec.ofNat 16 base) mem ∧
      x.prot = if protect && decide (0 < x.cursor) then
        prot ++ [{ first := 0, last := BitVec.ofNat 16 (x.cursor - 1) }] else prot := by
  unfold loadFiles at h
  dsimp only at h
  split at h
  · cases h
  · next hfits =>
    cases h
    exact ⟨rfl, not_lt.mp hfits, rfl, rfl⟩

/-- Settles O52: the image reads back where it was placed, and the range appended holds what is below the cursor. -/
theorem loadedImageReadsBack : Obligations.LoadedImageReadsBack := by
  unfold Obligations.LoadedImageReadsBack
  intro files base protect mem prot x h
  obtain ⟨hcursor, hfits, hmem, hprot⟩ := loadFiles_eq_some h
  have hfits' : base + files.flatten.length ≤ 65536 := hcursor ▸ hfits
  refine ⟨hcursor, hfits, fun k hk => ?_, fun a ha => ?_, fun hprotect a => ?_, fun hprotect => ?_⟩
  · rw [hmem, byteAt_placeBytes_inside hfits' mem hk]
  · rw [hmem, byteAt_placeBytes_outside hfits' mem (hcursor ▸ ha)]
  · rcases Nat.eq_zero_or_pos x.cursor with hzero | hpos
    · simp [hprot, hprotect, hzero]
    · rw [← holds_below_cursor hpos hfits a]
      simp [hprot, hprotect, hpos, or_and_right, exists_or, or_comm]
  · rw [hprot, hprotect, Bool.false_and, if_neg Bool.false_ne_true]

end Sys2Proof.Machine
end

section
/-! PROOFS. The cycle counts (spec/70_reset_and_hazards.md R290), read off the table by opcode byte. -/

namespace Sys2Proof.Machine

/-- What the tables give for the opcode byte of `i`: the condition that makes it longer, if it has one, and the count. -/
abbrev CycleRow (i : Instr) (cond : Option Cond) (n : Nat) : Prop :=
  callOrReturnCond (opcodeOf i) = cond ∧ cycleTable.getD (opcodeOf i).toNat 0 = n

section
variable {i j : Instr} {n : Nat} {f : Flags}

/-- The count of a row without a condition, whatever operands follow the opcode byte. -/
theorem instrCycles_of_unconditional (hop : opcodeOf i = opcodeOf j) (hrow : CycleRow j none n) :
    instrCycles i f = n := by
  obtain ⟨hcond, hcount⟩ := hrow
  rw [instrCycles, hop, hcond, hcount, Nat.add_zero]

/-- A conditional call or return takes 6 more when taken. -/
theorem instrCycles_of_conditional {cond : Cond} (hop : opcodeOf i = opcodeOf j) (hrow : CycleRow j (some cond) n) :
    instrCycles i f = if condHolds cond f then n + 6 else n := by
  obtain ⟨hcond, hcount⟩ := hrow
  rw [instrCycles, hop, hcond, hcount]
  exact add_ite ..

/-- Rows without operands and of one count. -/
theorem instrCycles_of_rows {rows : List Instr} (hrows : ∀ i ∈ rows, CycleRow i none n) :
    ∀ i ∈ rows, instrCycles i f = n :=
  fun i hi => instrCycles_of_unconditional rfl (hrows i hi)

end

theorem opcodeOf_cccInstr (cond : Cond) (a16 : Word) : opcodeOf (cccInstr cond a16) = opcodeOf (cccInstr cond 0) := by
  cases cond <;> rfl

theorem cycleRow_cccInstr (cond : Cond) : CycleRow (cccInstr cond 0) (some cond) 11 := by cases cond <;> decide

theorem cycleRow_rccInstr (cond : Cond) : CycleRow (rccInstr cond) (some cond) 5 := by cases cond <;> decide

/-- Settles O53: the row of each form, by the cases of its selector fields; an operand byte does not matter, and the flags
matter for a conditional call or return alone. -/
theorem cycleCountsOfTheTable : Obligations.CycleCountsOfTheTable := by
  unfold Obligations.CycleCountsOfTheTable
  intro f
  refine ⟨instrCycles_of_rows (by decide), instrCycles_of_rows (by decide), instrCycles_of_rows (by decide), rfl, rfl,
    fun p d16 => ?lxi, fun p => ?inxDcxDad, fun p => ?pushPop, fun a16 => ⟨?sta, ?lda, ?shld, ?lhld⟩,
    fun port => ⟨?inp, ?out⟩, fun a16 => ⟨?jmp, ?call⟩, fun n => ?rst, fun dst src => ?mov, fun dst d8 => ?mvi,
    fun op src => ?alu, fun op d8 => ?aluImm, fun dst => ?inr, fun dst => ?dcr, fun cond a16 => ?jcc,
    fun cond a16 => instrCycles_of_conditional (opcodeOf_cccInstr cond a16) (cycleRow_cccInstr cond),
    fun cond => instrCycles_of_conditional rfl (cycleRow_rccInstr cond), fun _ => rfl⟩
  case lxi => exact instrCycles_of_unconditional (j := lxiInstr p 0) (by cases p <;> rfl) (by cases p <;> decide)
  case inxDcxDad => cases p <;> exact ⟨rfl, rfl, rfl⟩
  case pushPop => cases p <;> exact ⟨rfl, rfl⟩
  case sta => exact instrCycles_of_unconditional (j := .sta 0) rfl (by decide)
  case lda => exact instrCycles_of_unconditional (j := .lda 0) rfl (by decide)
  case shld => exact instrCycles_of_unconditional (j := .shld 0) rfl (by decide)
  case lhld => exact instrCycles_of_unconditional (j := .lhld 0) rfl (by decide)
  case inp => exact instrCycles_of_unconditional (j := .inp 0) rfl (by decide)
  case out => exact instrCycles_of_unconditional (j := .out 0) rfl (by decide)
  case jmp => exact instrCycles_of_unconditional (j := .jmp 0) rfl (by decide)
  case call => exact instrCycles_of_unconditional (j := .call 0) rfl (by decide)
  case rst =>
    match n with
    | 0#3 | 1#3 | 2#3 | 3#3 | 4#3 | 5#3 | 6#3 | 7#3 => rfl
  case mov => cases dst <;> cases src <;> rfl
  case mvi => exact instrCycles_of_unconditional (j := mviInstr dst 0) (by cases dst <;> rfl) (by cases dst <;> decide)
  case alu => cases op <;> cases src <;> rfl
  case aluImm => exact instrCycles_of_unconditional (j := aluImmInstr op 0) (by cases op <;> rfl) (by cases op <;> decide)
  case inr => cases dst <;> rfl
  case dcr => cases dst <;> rfl
  case jcc => exact instrCycles_of_unconditional (j := jccInstr cond 0) (by cases cond <;> rfl) (by cases cond <;> decide)

end Sys2Proof.Machine
end

section
/-! PROOFS. The run of a launch (spec/70_reset_and_hazards.md R287): the machine's steps walk it, it stays at its end, and
without interrupts the end comes right after the first `HLT`. -/

namespace Sys2Proof.Machine

/-! ## The steps of the machine -/

theorem reschedule_eq_next_iff {q : List (List DriverEvent)} {r : Result} {u : State} :
    reschedule q r = .next u ↔ ∃ t, r = .next t ∧ u = t.setSchedule q := by
  cases r with
  | next t => simp [reschedule, eq_comm]
  | fault f => cases f <;> simp [reschedule]
  | refused q => simp [reschedule]

/-- A step from a state that stands before a boundary of a schedule. -/
theorem step_setSchedule_cons (t : State) (evs : List DriverEvent) (rest : List (List DriverEvent)) :
    step (t.setSchedule (evs :: rest)) = reschedule rest (andThen (applyEvents evs t) coreStep) :=
  calc step (t.setSchedule (evs :: rest))
    _ = andThen (applyEvents evs (t.setSchedule rest)) coreStep := step_of_cons rfl
    _ = reschedule rest (andThen (applyEvents evs t) coreStep) := by
      rw [applyEvents_ignoresSchedule]
      exact andThen_reschedule fun u => coreStep_ignoresSchedule u rest

/-! ## The halt -/

/-- What `HLT` leaves in a running core, the pending enable activated before it (46_machine_control.md R242). -/
theorem coreStep_halts_iff {s u : State} (hrun : s.halt = false) :
    (coreStep s = .next u ∧ u.halt = true) ↔
      fetch s = .hlt ∧ u = { s with ie := s.ie || s.pend, pend := false, halt := true } := by
  constructor
  · rintro ⟨h, hhalt⟩
    have hexec := exec_of_coreStep_eq_next hrun h
    obtain ⟨-, -, hkept⟩ := (exec_effect hexec).latchesKeptBut
    have hfetch : fetch s = .hlt := by
      by_contra hne
      exact Bool.noConfusion (hhalt.symm.trans ((hkept hne).trans hrun))
    rw [hfetch, exec_hlt] at hexec
    exact ⟨hfetch, (Host.Outcome.next.inj hexec).symm⟩
  · rintro ⟨hfetch, rfl⟩
    exact ⟨by rw [coreStep_of_fetch hrun hfetch rfl, exec_hlt], rfl⟩

namespace Launch

variable {x : Launch}

/-- What is left of the launch's first `n` boundaries before boundary `k`. -/
def remaining (x : Launch) (n k : Nat) : List (List DriverEvent) := ((List.range n).map x.events).drop k

theorem remaining_of_lt {n k : Nat} (hk : k < n) : x.remaining n k = x.events k :: x.remaining n (k + 1) := by
  have hlength : k < ((List.range n).map x.events).length := by simpa using hk
  rw [remaining, List.drop_eq_getElem_cons hlength, List.getElem_map, List.getElem_range]
  rfl

/-- A boundary and the step after it. -/
theorem before_succ_eq_next_iff {k : Nat} {t : State} :
    x.before (k + 1) = .next t ↔
      ∃ s, x.before k = .next s ∧ andThen (applyEvents (x.events k) s) coreStep = .next t := by
  rw [before_succ, stateAt, andThen_assoc, andThen_eq_next_iff]

/-- The machine's state after `k` steps is what the events of boundary `k` find, with the rest of the schedule. -/
theorem steps_startWith_iff (x : Launch) {n k : Nat} (hk : k ≤ n) (u : State) :
    steps k (x.startWith n) = .next u ↔ ∃ t, x.before k = .next t ∧ u = t.setSchedule (x.remaining n k) := by
  induction k generalizing u with
  | zero => simp [steps, startWith, remaining, eq_comm]
  | succ k ih =>
    have hstep (t : State) : step (t.setSchedule (x.remaining n k)) = .next u ↔
        ∃ w, andThen (applyEvents (x.events k) t) coreStep = .next w ∧ u = w.setSchedule (x.remaining n (k + 1)) := by
      rw [remaining_of_lt hk, step_setSchedule_cons, reschedule_eq_next_iff]
    constructor
    · intro h
      obtain ⟨v, hv, hu⟩ := andThen_eq_next_iff.mp h
      obtain ⟨t, ht, rfl⟩ := (ih (Nat.le_of_lt hk) v).mp hv
      obtain ⟨w, hw, hu⟩ := (hstep t).mp hu
      exact ⟨w, before_succ_eq_next_iff.mpr ⟨t, ht, hw⟩, hu⟩
    · rintro ⟨w, hw, hu⟩
      obtain ⟨t, ht, hw⟩ := before_succ_eq_next_iff.mp hw
      exact andThen_eq_next_iff.mpr ⟨_, (ih (Nat.le_of_lt hk) _).mpr ⟨t, ht, rfl⟩, (hstep t).mpr ⟨w, hw, hu⟩⟩

/-! ## After the end -/

/-- The first request of a list that holds one. -/
theorem exists_first_interrupt {evs : List DriverEvent} (h : ∃ ev ∈ evs, ev.isInterrupt = true) :
    ∃ earlier n later, evs = earlier ++ .interrupt n :: later ∧ ∀ ev ∈ earlier, ev.isInterrupt = false := by
  obtain ⟨first, hfind⟩ := Option.isSome_iff_exists.mp (List.find?_isSome.mpr h)
  obtain ⟨hfirst, earlier, later, hevs, hearlier⟩ := List.find?_eq_some_iff_append.mp hfind
  cases first with
  | interrupt n => exact ⟨earlier, n, later, hevs, by simpa using hearlier⟩
  | input | reset => cases hfirst

/-- A boundary that accepts no request holds none, or `IE` is clear before it: with `IE` set the first one would be
accepted. -/
theorem noneAccepted_of_not_acceptsAt (hlegal : x.Legal) {j : Nat} {s : State} (hs : x.before j = .next s)
    (hno : ¬x.AcceptsAt j) : NoneAccepted s (x.events j) := by
  intro hie
  by_contra hsome
  obtain ⟨earlier, n, later, hevents, hearlier⟩ := exists_first_interrupt (evs := x.events j) (by simpa using hsome)
  have hlegal' : ∀ ev ∈ earlier, ev.legal = true := fun ev hev => hlegal j ev (by simp [hevents, hev])
  obtain ⟨t, ht, hst⟩ := applyEvents_inputsOnly hlegal' fun _ => hearlier
  exact hno ⟨earlier, n, later, t, hevents, by rw [hs, andThen_next, ht], hst.ie.trans hie⟩

/-- A boundary at which no request is accepted writes the input latches alone. -/
theorem stateAt_of_not_acceptsAt (hlegal : x.Legal) {j : Nat} {s : State} (hs : x.before j = .next s)
    (hno : ¬x.AcceptsAt j) : ∃ t, x.stateAt j = .next t ∧ InputsOnly s t := by
  obtain ⟨t, ht, hst⟩ := applyEvents_inputsOnly (hlegal j) (noneAccepted_of_not_acceptsAt hlegal hs hno)
  exact ⟨t, by rw [stateAt, hs, andThen_next, ht], hst⟩

/-- From a halted state after which no request is accepted, every later state is it but for the input latches. -/
theorem stateAt_of_endCondition (hlegal : x.Legal) {k : Nat} {s : State} (hend : x.EndCondition k s) {j : Nat}
    (hj : k ≤ j) : ∃ t, x.stateAt j = .next t ∧ InputsOnly s t := by
  obtain ⟨hs, hhalt, hno⟩ := hend
  induction j, hj using Nat.le_induction with
  | base => exact ⟨s, hs, .refl s⟩
  | succ j hj ih =>
    obtain ⟨u, hu, hsu⟩ := ih
    have hbefore : x.before (j + 1) = .next u := by
      rw [before_succ, hu, andThen_next, coreStep_of_halted (hsu.halt.trans hhalt)]
    obtain ⟨t, ht, hut⟩ := stateAt_of_not_acceptsAt hlegal hbefore (hno (j + 1) (Nat.lt_succ_of_le hj))
    exact ⟨t, ht, hsu.trans hut⟩

/-- A run that stands at a state has stood at one at every earlier boundary. -/
theorem stateAt_of_le {k : Nat} {t : State} (h : x.stateAt k = .next t) {m : Nat} (hm : m ≤ k) :
    ∃ s, x.stateAt m = .next s := by
  induction k, hm using Nat.le_induction generalizing t with
  | base => exact ⟨t, h⟩
  | succ k _ ih =>
    obtain ⟨s, -, hs, -⟩ := stateAt_succ_eq_next h
    exact ih hs

/-- A run that ends stands at a state at every boundary, before the end and after it. -/
theorem stateAt_of_endsAt (hlegal : x.Legal) {k : Nat} {s : State} (h : x.EndsAt k s) (j : Nat) :
    ∃ t, x.stateAt j = .next t := by
  obtain ⟨hend, -⟩ := h
  rcases Nat.le_total j k with hj | hj
  · exact stateAt_of_le hend.1 hj
  · obtain ⟨t, ht, -⟩ := stateAt_of_endCondition hlegal hend hj
    exact ⟨t, ht⟩

theorem endsAt_unique {k k' : Nat} {s s' : State} (h : x.EndsAt k s) (h' : x.EndsAt k' s') : k' = k ∧ s' = s := by
  obtain ⟨hend, hfirst⟩ := h
  obtain ⟨hend', hfirst'⟩ := h'
  obtain rfl : k' = k := Nat.le_antisymm (hfirst' k s hend) (hfirst k' s' hend')
  obtain ⟨hs, -⟩ := hend
  obtain ⟨hs', -⟩ := hend'
  exact ⟨rfl, Host.Outcome.next.inj (hs'.symm.trans hs)⟩

/-! ## Without interrupts -/

section
variable (hlegal : x.Legal) (hno : ∀ j, ∀ ev ∈ x.events j, ev.isInterrupt = false)
include hno

theorem not_acceptsAt_of_no_interrupt (j : Nat) : ¬x.AcceptsAt j := by
  rintro ⟨earlier, n, later, -, hevents, -, -⟩
  exact Bool.noConfusion (hno j (.interrupt n) (by simp [hevents]))

include hlegal

/-- Every boundary writes the input latches alone. -/
theorem inputsOnly_of_no_interrupt {j : Nat} {u s : State} (hu : x.before j = .next u) (hs : x.stateAt j = .next s) :
    InputsOnly u s := by
  obtain ⟨t, ht, hut⟩ := stateAt_of_not_acceptsAt hlegal hu (not_acceptsAt_of_no_interrupt hno j)
  exact Host.Outcome.next.inj (ht.symm.trans hs) ▸ hut

/-- The end is the first halted state, and a step from a running state has led to it. -/
theorem exists_running_of_endsAt {k : Nat} {s : State} (h : x.EndsAt k s) :
    ∃ m r u, k = m + 1 ∧ x.stateAt m = .next r ∧ r.halt = false ∧ (coreStep r = .next u ∧ u.halt = true) ∧
      InputsOnly u s := by
  obtain ⟨⟨hs, hhalt, -⟩, hfirst⟩ := h
  cases k with
  | zero =>
    have hstart := inputsOnly_of_no_interrupt hlegal hno (before_zero x) hs
    exact Bool.noConfusion (hhalt.symm.trans hstart.halt)
  | succ m =>
    obtain ⟨r, u, hr, hru, -⟩ := stateAt_succ_eq_next hs
    have hus : InputsOnly u s := inputsOnly_of_no_interrupt hlegal hno (by rw [before_succ, hr, andThen_next, hru]) hs
    have hrun : r.halt = false := by
      by_contra hhalted
      have hend : x.EndCondition m r := ⟨hr, by simpa using hhalted, fun j _ => not_acceptsAt_of_no_interrupt hno j⟩
      exact Nat.not_succ_le_self m (hfirst m r hend)
    exact ⟨m, r, u, rfl, hr, hrun, ⟨hru, hus.halt.symm.trans hhalt⟩, hus⟩

/-- The first halted state is the end: an end before it would have left every later state halted. -/
theorem endsAt_succ_of_running {m : Nat} {r s : State} (hr : x.stateAt m = .next r) (hrun : r.halt = false)
    (hs : x.stateAt (m + 1) = .next s) (hhalt : s.halt = true) : x.EndsAt (m + 1) s := by
  refine ⟨⟨hs, hhalt, fun j _ => not_acceptsAt_of_no_interrupt hno j⟩, fun k t hend => ?_⟩
  by_contra hlt
  obtain ⟨r', hr', htr⟩ := stateAt_of_endCondition hlegal hend (j := m) (by omega)
  obtain rfl : r' = r := Host.Outcome.next.inj (hr'.symm.trans hr)
  obtain ⟨-, hhalted, -⟩ := hend
  exact Bool.noConfusion (hrun.symm.trans (htr.halt.trans hhalted))

end

end Launch

/-- Settles O60: the steps by induction along the run; the end by what a halted core and a boundary that accepts no request
leave, and by `HLT` being the one instruction that halts. -/
theorem runOfALaunchAndItsEnd : Obligations.RunOfALaunchAndItsEnd := by
  unfold Obligations.RunOfALaunchAndItsEnd
  refine fun x => ⟨fun n k u hk => x.steps_startWith_iff hk u, fun hlegal k s h => ⟨?unique, ?noFault, ?later⟩,
    fun hlegal hno k s => ⟨?hltBefore, ?endAfter⟩⟩
  case unique => exact fun k' s' h' => Launch.endsAt_unique h h'
  case noFault =>
    rintro f ⟨j, hf⟩
    obtain ⟨t, ht⟩ := Launch.stateAt_of_endsAt hlegal h j
    exact nomatch ht.symm.trans hf
  case later =>
    intro j hj
    obtain ⟨hend, -⟩ := h
    obtain ⟨t, ht, hst⟩ := Launch.stateAt_of_endCondition hlegal hend hj
    exact ⟨t, ht, hst.eq⟩
  case hltBefore =>
    intro h
    obtain ⟨m, r, u, hk, hr, hrun, hhalts, hus⟩ := Launch.exists_running_of_endsAt hlegal hno h
    obtain ⟨hfetch, rfl⟩ := (coreStep_halts_iff hrun).mp hhalts
    obtain ⟨⟨hs, -⟩, -⟩ := h
    exact ⟨m, r, hk, hr, hrun, hfetch, hs, hus.eq⟩
  case endAfter =>
    rintro ⟨m, r, rfl, hr, hrun, -, hs, heq⟩
    exact Launch.endsAt_succ_of_running hlegal hno hr hrun hs (by rw [heq])

end Sys2Proof.Machine
end
